-- ==== Sys2Proof/Word.lean ====
section
/-! DEFINITION. The plain types the model counts and names with: bytes, frame values, requester ids, tags,
addresses, requester-entry indexes, and whole-number division rounded up. -/

namespace Sys2Proof

/-- One byte of data, of a frame or of a layout. -/
abbrev Byte := BitVec 8

/-- A 32-bit value of a management frame or answer (section 11.2). -/
abbrev Word := BitVec 32

/-- The 16-bit fabric identity of a host (section 1.2). -/
abbrev ReqId := BitVec 16

/-- A host's 10-bit name for one transaction (section 1.2). -/
abbrev Tag := BitVec 10

/-- A byte address in storage-head memory, 0 to 2^48 − 1 (section 1.2). -/
abbrev Addr := BitVec 48

/-- The index of one of the 48 requester entries (section 2.1). -/
abbrev EntryIx := Fin 48

/-- The bytes one data beat carries (section 1.1: 1 to 64 of them). -/
abbrev Beat := List Byte

/-- ⌈a / b⌉. -/
def ceilDiv (a b : Nat) : Nat := (a + b - 1) / b

end Sys2Proof
end

