-- ==== Sys2Proof/Syntax.lean ====
section
/-! DEFINITION. The commands of the OL-4820: one constructor per row of spec/opcode_table.json, with the
operands a row's event carries, and the few types those operands need. -/

namespace Sys2Proof

/-- The kind of a transaction, which is also the lane field of a descriptor (R37). -/
inductive Kind where
  | read
  | write
deriving DecidableEq, Repr

/-- The four lanes of the Grant Wheel (R78). -/
inductive LaneName where
  | read
  | write
  | shared
  | drain
deriving DecidableEq, Repr

/-- The two marks of a link (section 1.1). -/
inductive Mark where
  | endMark
  | abortMark
deriving DecidableEq, Repr

/-- The four pool-pressure marks (R51). -/
inductive PressureMark where
  | descriptorLow
  | descriptorHigh
  | cellLow
  | cellHigh
deriving DecidableEq, Repr

/-- The two stored settings of the wheel (R77). -/
inductive WheelSetting where
  | split
  | pacing
deriving DecidableEq, Repr

/-- A header as its 16 bytes lay it out (section 1.2, header layout), most significant field first. The
fields named zeros are the bits the layout says are zero. -/
structure Header where
  kindCode : BitVec 4
  statusCode : BitVec 4
  requesterId : ReqId
  tagZeros : BitVec 6
  tag : Tag
  lengthZeros : BitVec 4
  lengthMinusOne : BitVec 12
  address : Addr
  tailZeros : BitVec 24
deriving DecidableEq, Repr

/-- The eight bytes of a management frame (section 11.2), in the order they are clocked in. -/
structure Frame where
  code : Byte
  table : Byte
  index : Byte
  field : Byte
  value : Word
deriving DecidableEq, Repr

/-- One command of the block: an event that reaches it or a step one of its blocks takes. -/
inductive Instr where
  /-- R10: a request header from the switch. -/
  | upHeaderArrival (h : Header)
  /-- R52: a data beat from the switch. -/
  | upBeatArrival (b : Beat)
  /-- R53: an end mark from the switch. -/
  | upEndMark
  /-- R56: an abort mark from the switch. -/
  | requesterAbort
  /-- R7: the switch advertises response credits. -/
  | switchCreditGrant (headers beats : Nat)
  /-- R8: memory advertises request credits. -/
  | memoryCreditGrant (headers beats : Nat)
  /-- R42: one attempt at the head of the arrival queue. -/
  | disposition
  /-- R9: a response header from memory. -/
  | responseHeaderArrival (h : Header)
  /-- R9: a response beat from memory. -/
  | responseBeatArrival (b : Beat)
  /-- R12: the upstream response arbiter sends one response packet. -/
  | upResponseSend
  /-- R16: the upstream link goes down. -/
  | upLinkDown
  /-- R17: the upstream link comes up. -/
  | upLinkUp
  /-- R18: the downstream link goes down. -/
  | downLinkDown
  /-- R19: the downstream link comes up. -/
  | downLinkUp
  /-- R167: PORn rises, with the level of the MODE strap at that moment. -/
  | powerOnReset (strapHigh : Bool)
  /-- R168: the start-up fill ends. -/
  | startUpFillEnd
  /-- R100: the epoch timer's interval ends. -/
  | epochTimerExpiry
  /-- R170: the 50 ns pulse on PACE ends. -/
  | pacePulseEnd
  /-- R170: a rising edge of the PACE pin. -/
  | paceEdge
  /-- R112: the refill pass lands its next entry. -/
  | refillLanding
  /-- R113: the refill pass ends. -/
  | refillPassEnd
  /-- R151: the evaluation pass evaluates its next entry. -/
  | entryEvaluation
  /-- R84: a lane's visit of the slot it has come to. -/
  | slotVisit (lane : LaneName)
  /-- R80: the step of both lanes to the next pair. -/
  | slotPairStep
  /-- R93: the drain lane's search. -/
  | drainSearch
  /-- R13: the downstream link arbiter begins a packet. -/
  | packetBegin
  /-- R134: the Downstream Port comes to its next unit. -/
  | dpUnitSend
  /-- R129: the response timer of the transaction with this pair runs out. -/
  | responseTimerExpiry (requesterId : ReqId) (tag : Tag)
  /-- R136: the underrun wait runs out. -/
  | underrun
  /-- R186: READ FIELD. -/
  | readField (table index field : Byte)
  /-- R150: READ FIELD of a closing record's M. -/
  | readM (index : Byte)
  /-- R187: READ FIELD of the low part of released bytes. -/
  | readReleasedBytesLow (index : Byte)
  /-- R187: READ FIELD of the high part of released bytes. -/
  | readReleasedBytesHigh (index : Byte)
  /-- R186: WRITE FIELD. -/
  | writeField (table index field : Byte) (value : Word)
  /-- R32: WRITE FIELD of yes to an entry's enabled field. -/
  | enable (index : Byte)
  /-- R33: WRITE FIELD of no to an entry's enabled field. -/
  | disable (index : Byte)
  /-- R116: WRITE FIELD of an entry's burst cap. -/
  | setBurst (index : Byte) (value : Word)
  /-- R105: WRITE FIELD of PORT_EPOCH_BYTES. -/
  | portEpochBytesWrite (value : Word)
  /-- R51: WRITE FIELD of a pressure mark. -/
  | pressureMarkWrite (mark : PressureMark) (value : Word)
  /-- R170: WRITE FIELD of the PACE direction. -/
  | paceDirectionWrite (value : Word)
  /-- R177: WRITE FIELD of the trigger source. -/
  | triggerSourceWrite (value : Word)
  /-- R175: WRITE FIELD of a field of a change-list entry. -/
  | changeListEntryWrite (index field : Byte) (value : Word)
  /-- R186: WRITE FIELD of the event mask. -/
  | eventMaskWrite (value : Word)
  /-- R77: WRITE FIELD of the stored lane split or pacing. -/
  | wheelSettingWrite (setting : WheelSetting) (value : Word)
  /-- R188: READ STATUS, with the level at the PACE pin as the read finds it (R171). -/
  | readStatus (pacePin : Bool)
  /-- R188: CLEAR STATUS, with the level at the PACE pin as its answer finds it. -/
  | clearStatus (value : Word) (pacePin : Bool)
  /-- R190: POP EVENT. -/
  | popEvent
  /-- R95: ENGAGE. -/
  | engage
  /-- R96: the BYPASS command. -/
  | bypass
  /-- R97: HALT. -/
  | halt
  /-- R97: RESUME. -/
  | resume
  /-- R172: SOFT RESET, with the level at the PACE pin as its answer finds it. -/
  | softReset (pacePin : Bool)
  /-- R178: ARM. -/
  | arm
  /-- R178: DISARM. -/
  | disarm
  /-- R179: GO. -/
  | go
  /-- R159: INJECT, the backlog flag in bit 31 of the value and the measured value below it (R185). -/
  | inject (index : Byte) (value : Word)
  /-- R142: CLEAR COUNTERS. -/
  | clearCounters
  /-- R185: a frame whose command code names no command. -/
  | unknownCommand (code : Byte)
  /-- R184: MSEL rises before the eighth byte of a frame. -/
  | frameAbort
  /-- R178: the countdown that has reached 0 expires. -/
  | countdownExpiry
  /-- R180: the run applies its next list entry. -/
  | changeListApply
  /-- R1: a mark from memory. -/
  | responseMarkArrival (m : Mark)
  /-- R191: PORn falls low. -/
  | powerOnResetAsserted
deriving DecidableEq, Repr

end Sys2Proof
end

