-- ==== Sys2Proof/WellFormed.lean ====
section
/-! DEFINITION. Well-formed commands: a beat has the bytes a link can carry, a slot is visited by a lane that walks
slots, an index names something of its table, and a field that has a command of its own is reached by that
command. The machine gives ill-formed commands a meaning too; no rule of the manual speaks of them. -/

namespace Sys2Proof

/-- Section 1.1: a data beat carries from 1 to 64 bytes. -/
def beatWf (b : Beat) : Bool := decide (1 ≤ b.length) && decide (b.length ≤ 64)

/-- R84: the drain lane visits no slot. -/
def slotLaneWf (l : LaneName) : Bool := l != .drain

/-- An index byte names one of the 48 requester entries. -/
def entryIndexWf (index : Byte) : Bool := decide (index.toNat < 48)

/-- R175: index and field bytes name a field of one of the 32 change-list entries. -/
def listFieldWf (index field : Byte) : Bool := decide (index.toNat < 32) && decide (field.toNat < 3)

/-- The reads that READ_M (R150) and the two reads of released bytes (R187) stand for. -/
def readHasOwnCommand (table index field : Byte) : Bool :=
  entryIndexWf index && ((table == 6 && field == 1) || (table == 7 && (field == 0 || field == 1)))

/-- R32, R33, R116: a write to an entry's enabled field with yes or no, or to its burst cap. -/
def entryWriteHasOwnCommand (table index field : Byte) (value : Word) : Bool :=
  table == 1 && entryIndexWf index && ((field == 0 && (value == 0 || value == 1)) || field == 0x0B)

/-- R51, R105, R170, R186: PORT_EPOCH_BYTES, the four marks, the PACE direction and the event mask. -/
def globalWriteHasOwnCommand (table index field : Byte) : Bool :=
  table == 4 && index == 0 && (field == 0x02 || (decide (0x0D ≤ field.toNat) && decide (field.toNat ≤ 0x12)))

/-- R77: the two wheel settings. -/
def wheelWriteHasOwnCommand (table index field : Byte) : Bool :=
  table == 3 && index == 16 && (field == 0 || field == 1)

/-- R175, R177: a field of a change-list entry, and the trigger source. -/
def listWriteHasOwnCommand (table index field : Byte) : Bool :=
  table == 5 && (listFieldWf index field || (index == 32 && field == 0))

/-- The writes that have a command of their own. -/
def writeHasOwnCommand (table index field : Byte) (value : Word) : Bool :=
  entryWriteHasOwnCommand table index field value || globalWriteHasOwnCommand table index field
    || wheelWriteHasOwnCommand table index field || listWriteHasOwnCommand table index field

/-- Section 11.2: the command codes that name a command. -/
def knownCodes : List Byte :=
  [0x01, 0x02, 0x03, 0x04, 0x05, 0x10, 0x11, 0x12, 0x13, 0x14, 0x20, 0x21, 0x22, 0x30, 0x31]

/-- A command's operands are ones that its event can carry. -/
def Instr.wf (i : Instr) : Bool :=
  match i with
  | .upHeaderArrival _ => true
  | .upBeatArrival b => beatWf b
  | .upEndMark => true
  | .requesterAbort => true
  | .switchCreditGrant _ _ => true
  | .memoryCreditGrant _ _ => true
  | .disposition => true
  | .responseHeaderArrival _ => true
  | .responseBeatArrival b => beatWf b
  | .upResponseSend => true
  | .upLinkDown => true
  | .upLinkUp => true
  | .downLinkDown => true
  | .downLinkUp => true
  | .powerOnReset _ => true
  | .startUpFillEnd => true
  | .epochTimerExpiry => true
  | .pacePulseEnd => true
  | .paceEdge => true
  | .refillLanding => true
  | .refillPassEnd => true
  | .entryEvaluation => true
  | .slotVisit l => slotLaneWf l
  | .slotPairStep => true
  | .drainSearch => true
  | .packetBegin => true
  | .dpUnitSend => true
  | .responseTimerExpiry _ _ => true
  | .underrun => true
  | .readField t i f => !readHasOwnCommand t i f
  | .readM i => entryIndexWf i
  | .readReleasedBytesLow i => entryIndexWf i
  | .readReleasedBytesHigh i => entryIndexWf i
  | .writeField t i f v => !writeHasOwnCommand t i f v
  | .enable i => entryIndexWf i
  | .disable i => entryIndexWf i
  | .setBurst i _ => entryIndexWf i
  | .portEpochBytesWrite _ => true
  | .pressureMarkWrite _ _ => true
  | .paceDirectionWrite _ => true
  | .triggerSourceWrite _ => true
  | .changeListEntryWrite i f _ => listFieldWf i f
  | .eventMaskWrite _ => true
  | .wheelSettingWrite _ _ => true
  | .readStatus _ => true
  | .clearStatus _ _ => true
  | .popEvent => true
  | .engage => true
  | .bypass => true
  | .halt => true
  | .resume => true
  | .softReset _ => true
  | .arm => true
  | .disarm => true
  | .go => true
  | .inject _ _ => true
  | .clearCounters => true
  | .unknownCommand c => !knownCodes.contains c
  | .frameAbort => true
  | .countdownExpiry => true
  | .changeListApply => true
  | .responseMarkArrival _ => true
  | .powerOnResetAsserted => true

end Sys2Proof
end

