-- ==== Sys2Proof/Decode.lean ====
section
/-! DEFINITION. The layouts that a link partner and the management controller see: the 16 bytes of a header (section
1.2), the eight bytes of a frame (section 11.2) with the command they name, and the word a row of the opcode table
spells. The encoders stand beside the decoders. -/

namespace Sys2Proof

/-! ### The opcode table -/

/-- The command a word spells by the table's bits: the table gives bits to no row, so no word spells one. -/
def decodeTableWord (_nbits _w : Nat) : Option Instr := none

/-! ### The header's 16 bytes, byte 0 in the most significant place -/

/-- The bytes of a header as one number, first byte first. -/
def headerBits (h : Header) : BitVec 128 :=
  h.kindCode ++ h.statusCode ++ h.requesterId ++ h.tagZeros ++ h.tag ++ h.lengthZeros ++ h.lengthMinusOne
    ++ h.address ++ h.tailZeros

/-- The header that 16 bytes carry. -/
def headerOfBits (w : BitVec 128) : Header :=
  { kindCode := w.extractLsb' 124 4, statusCode := w.extractLsb' 120 4, requesterId := w.extractLsb' 104 16,
    tagZeros := w.extractLsb' 98 6, tag := w.extractLsb' 88 10, lengthZeros := w.extractLsb' 84 4,
    lengthMinusOne := w.extractLsb' 72 12, address := w.extractLsb' 24 48, tailZeros := w.extractLsb' 0 24 }

/-! ### The frame's eight bytes, byte 0 in the most significant place -/

/-- The bytes of a frame as one number, in the order they are clocked in (R184). -/
def frameBits (f : Frame) : BitVec 64 := f.code ++ f.table ++ f.index ++ f.field ++ f.value

/-- The frame that eight bytes make. -/
def frameOfBits (w : BitVec 64) : Frame :=
  { code := w.extractLsb' 56 8, table := w.extractLsb' 48 8, index := w.extractLsb' 40 8,
    field := w.extractLsb' 32 8, value := w.extractLsb' 0 32 }

/-! ### The command a frame names (R185, R186) -/

/-- R186: a READ FIELD frame, with the three reads that do more than read. -/
def readCommand (f : Frame) : Instr :=
  if readHasOwnCommand f.table f.index f.field then
    if f.table = 6 then .readM f.index
    else if f.field = 0 then .readReleasedBytesLow f.index
    else .readReleasedBytesHigh f.index
  else .readField f.table f.index f.field

/-- A WRITE FIELD frame to an entry's enabled field or burst cap. -/
def entryWriteCommand (f : Frame) : Instr :=
  if f.field = 0x0B then .setBurst f.index f.value
  else if f.value = 1 then .enable f.index
  else .disable f.index

/-- A WRITE FIELD frame to one of the GLOBAL fields with a command of its own. -/
def globalWriteCommand (f : Frame) : Instr :=
  if f.field = 0x02 then .portEpochBytesWrite f.value
  else if f.field = 0x0D then .pressureMarkWrite .descriptorLow f.value
  else if f.field = 0x0E then .pressureMarkWrite .descriptorHigh f.value
  else if f.field = 0x0F then .pressureMarkWrite .cellLow f.value
  else if f.field = 0x10 then .pressureMarkWrite .cellHigh f.value
  else if f.field = 0x11 then .paceDirectionWrite f.value
  else .eventMaskWrite f.value

/-- R186: a WRITE FIELD frame, with the writes that have a command of their own. -/
def writeCommand (f : Frame) : Instr :=
  if entryWriteHasOwnCommand f.table f.index f.field f.value then entryWriteCommand f
  else if globalWriteHasOwnCommand f.table f.index f.field then globalWriteCommand f
  else if wheelWriteHasOwnCommand f.table f.index f.field then
    .wheelSettingWrite (if f.field = 0 then .split else .pacing) f.value
  else if listWriteHasOwnCommand f.table f.index f.field then
    if f.index = 32 then .triggerSourceWrite f.value else .changeListEntryWrite f.index f.field f.value
  else .writeField f.table f.index f.field f.value

/-- R185: the command that a whole frame names, with the level at the PACE pin as its answer finds it. -/
def frameCommand (pin : Bool) (f : Frame) : Instr :=
  if f.code = 0x01 then readCommand f
  else if f.code = 0x02 then writeCommand f
  else if f.code = 0x03 then .readStatus pin
  else if f.code = 0x04 then .clearStatus f.value pin
  else if f.code = 0x05 then .popEvent
  else if f.code = 0x10 then .engage
  else if f.code = 0x11 then .bypass
  else if f.code = 0x12 then .halt
  else if f.code = 0x13 then .resume
  else if f.code = 0x14 then .softReset pin
  else if f.code = 0x20 then .arm
  else if f.code = 0x21 then .disarm
  else if f.code = 0x22 then .go
  else if f.code = 0x30 then .inject f.index f.value
  else if f.code = 0x31 then .clearCounters
  else .unknownCommand f.code

/-! ### The frame of a management command -/

def markField : PressureMark → Byte
  | .descriptorLow => 0x0D
  | .descriptorHigh => 0x0E
  | .cellLow => 0x0F
  | .cellHigh => 0x10

def settingField : WheelSetting → Byte
  | .split => 0x00
  | .pacing => 0x01

/-- The frame a management command is sent as, the bytes it does not read being 0; none for an event of a link, a
pin or a block. -/
def frameOf (i : Instr) : Option Frame :=
  match i with
  | .readField t x f => some ⟨0x01, t, x, f, 0⟩
  | .readM x => some ⟨0x01, 6, x, 1, 0⟩
  | .readReleasedBytesLow x => some ⟨0x01, 7, x, 0, 0⟩
  | .readReleasedBytesHigh x => some ⟨0x01, 7, x, 1, 0⟩
  | .writeField t x f v => some ⟨0x02, t, x, f, v⟩
  | .enable x => some ⟨0x02, 1, x, 0, 1⟩
  | .disable x => some ⟨0x02, 1, x, 0, 0⟩
  | .setBurst x v => some ⟨0x02, 1, x, 0x0B, v⟩
  | .portEpochBytesWrite v => some ⟨0x02, 4, 0, 0x02, v⟩
  | .pressureMarkWrite m v => some ⟨0x02, 4, 0, markField m, v⟩
  | .paceDirectionWrite v => some ⟨0x02, 4, 0, 0x11, v⟩
  | .triggerSourceWrite v => some ⟨0x02, 5, 32, 0, v⟩
  | .changeListEntryWrite x f v => some ⟨0x02, 5, x, f, v⟩
  | .eventMaskWrite v => some ⟨0x02, 4, 0, 0x12, v⟩
  | .wheelSettingWrite k v => some ⟨0x02, 3, 16, settingField k, v⟩
  | .readStatus _ => some ⟨0x03, 0, 0, 0, 0⟩
  | .clearStatus v _ => some ⟨0x04, 0, 0, 0, v⟩
  | .popEvent => some ⟨0x05, 0, 0, 0, 0⟩
  | .engage => some ⟨0x10, 0, 0, 0, 0⟩
  | .bypass => some ⟨0x11, 0, 0, 0, 0⟩
  | .halt => some ⟨0x12, 0, 0, 0, 0⟩
  | .resume => some ⟨0x13, 0, 0, 0, 0⟩
  | .softReset _ => some ⟨0x14, 0, 0, 0, 0⟩
  | .arm => some ⟨0x20, 0, 0, 0, 0⟩
  | .disarm => some ⟨0x21, 0, 0, 0, 0⟩
  | .go => some ⟨0x22, 0, 0, 0, 0⟩
  | .inject x v => some ⟨0x30, 0, x, 0, v⟩
  | .clearCounters => some ⟨0x31, 0, 0, 0, 0⟩
  | .unknownCommand c => some ⟨c, 0, 0, 0, 0⟩
  | .upHeaderArrival _ | .upBeatArrival _ | .upEndMark | .requesterAbort | .switchCreditGrant _ _
  | .memoryCreditGrant _ _ | .disposition | .responseHeaderArrival _ | .responseBeatArrival _ | .upResponseSend
  | .upLinkDown | .upLinkUp | .downLinkDown | .downLinkUp | .powerOnReset _ | .startUpFillEnd | .epochTimerExpiry
  | .pacePulseEnd | .paceEdge | .refillLanding | .refillPassEnd | .entryEvaluation | .slotVisit _ | .slotPairStep
  | .drainSearch | .packetBegin | .dpUnitSend | .responseTimerExpiry _ _ | .underrun | .frameAbort
  | .countdownExpiry | .changeListApply | .responseMarkArrival _ | .powerOnResetAsserted => none

/-- The level at the PACE pin that a command's answer finds (R171). -/
def pinOf (i : Instr) : Bool :=
  match i with
  | .readStatus p => p
  | .clearStatus _ p => p
  | .softReset p => p
  | _ => false

end Sys2Proof
end

