-- ==== Sys2Proof/Config.lean ====
section
/-! DEFINITION. The fixed sizes of the part, each with the rule that gives it, and the free values of the
model, of which nothing is known: what a management read answers where the manual states no value, and such like. -/

namespace Sys2Proof.Config

/-- R6, R10: places of the arrival queue for headers. -/
def arrivalPlaces : Nat := 8
/-- R6, R10: beat places of the arrival queue. -/
def arrivalBeatPlaces : Nat := 64
/-- R10, R11: places of the generated-response queue that are open to disposition. -/
def generatedPlaces : Nat := 16
/-- R9: response header places of the response buffer. -/
def responseHeaderPlaces : Nat := 4
/-- R9: beat places of the response buffer. -/
def responseBeatPlaces : Nat := 64
/-- R37: descriptors in the pool. -/
def descriptors : Nat := 512
/-- R39: data cells. -/
def cells : Nat := 256
/-- R39: bytes in one data cell. -/
def cellBytes : Nat := 512
/-- R2: bytes in every beat but the last. -/
def beatBytes : Nat := 64
/-- R123: entries of the Flight Table. -/
def flightPlaces : Nat := 256
/-- R189: records the event queue can hold. -/
def eventPlaces : Nat := 32
/-- R114: the transaction's header and link overhead in a charge. -/
def chargeOverhead : Nat := 32

/-- The value a count of taken epochs takes when it would pass its range (assumption 5), and the value a
management answer carries where the manual gives the read its effect and states no value
(a rescue-list position past the list's end, the run position while no run is under way, the answer to an
INJECT that names no entry): assumption 1. Its lowest bit also decides whether a soft reset during a change-list run
finds the write of the entry the run has come to already handed to its owner (assumption 40), and whether a visit's
search had named the head that a discard takes (assumption 46). It chooses which act of a soft reset comes next and how
many come in the step of SOFT_RESET (assumption 47). Nothing is known of it; the State counts its uses. -/
opaque freeValue : Nat → Word

/-- The level of MDO in a frame where the manual states none: while the eight bytes are being clocked in, and after the
answer's forty bits (assumption 30). Nothing is known of it. -/
opaque freeLevel : Nat → Bool

end Sys2Proof.Config
end

