-- ==== Sys2Proof/Machine/Types.lean ====
section
/-! DEFINITION. The state of each block of the OL-4820, as plain data: the named values of the manual as
inductive types, the records each block keeps, and one structure per block. -/

namespace Sys2Proof.Machine

/-! ### Named values -/

/-- The four service classes (section 2.5). -/
inductive SvcClass where
  | prime | record | bulk | scavenge
deriving DecidableEq, Repr

/-- R21: the share of excess an entry passes to the lent pool. -/
inductive LendRatio where
  | none | third | twoThirds | all
deriving DecidableEq, Repr

/-- R21: how an entry's refill is found. -/
inductive RefillSource where
  | formula | pinned
deriving DecidableEq, Repr

/-- R21: which crossings of the offset an entry reports. -/
inductive CrossingMode where
  | off | falling | rising | both
deriving DecidableEq, Repr

/-- R30: what an arrival of a class meets when resources are short. -/
inductive PressurePolicy where
  | defer | stall
deriving DecidableEq, Repr

/-- Section 8.4: the requester state. -/
inductive ReqState where
  | disabled | normal | over | starved
deriving DecidableEq, Repr

/-- R77: the lane split. -/
inductive LaneSplit where
  | shared | splitLocked | splitFree
deriving DecidableEq, Repr

/-- R77: the pacing. -/
inductive Pacing where
  | continuous | paced
deriving DecidableEq, Repr

/-- R78: the state a lane reads as. -/
inductive LaneState where
  | idle | walking | waitingLink | stopped
deriving DecidableEq, Repr

/-- What a lane is doing apart from any granted release it holds: a lane that holds one reads WAITING_LINK
(`Sys2Proof.Machine.laneState`), and its motion says whether a round is under way meanwhile. -/
inductive LaneMotion where
  | idle | walking | stopped
deriving DecidableEq, Repr

/-- R100: the epoch source. -/
inductive EpochSource where
  | timer | pace
deriving DecidableEq, Repr

/-- R170: the direction of the PACE pin. -/
inductive PaceDirection where
  | input | output
deriving DecidableEq, Repr

/-- R177: the trigger source of the change list. -/
inductive TriggerSource where
  | pace | alarm | countdown | go
deriving DecidableEq, Repr

/-- R149: whether a closing record is still to be evaluated. -/
inductive Evaluation where
  | evaluated | pending
deriving DecidableEq, Repr

/-- R153: the last crossing sign. -/
inductive CrossSign where
  | unknown | above | below
deriving DecidableEq, Repr

/-- R164: the regulator mode. -/
inductive Mode where
  | bypass | regulate | halted
deriving DecidableEq, Repr

/-- R164: the remembered mode. -/
inductive RunMode where
  | bypass | regulate
deriving DecidableEq, Repr

/-- Section 1.3: the status values. -/
inductive Status where
  | ok | media | defer | window | protocol | underrun | timeout | link
deriving DecidableEq, Repr

/-- R40: the upstream side of a write. -/
inductive DataState where
  | receiving | complete | draining | closed
deriving DecidableEq, Repr

/-- R40: the downstream side of a write. -/
inductive Transmission where
  | pending | sending | done
deriving DecidableEq, Repr

/-- R123: where a transaction in flight stands on the downstream link. -/
inductive FlightPhase where
  | granted | sending | awaiting
deriving DecidableEq, Repr

/-- R53: the events that end a write's upstream reception. -/
inductive Closing where
  | endMark | abortMark | nextHeader | linkDown
deriving DecidableEq, Repr

/-- R12: the two kinds of response packet the upstream arbiter chooses between. -/
inductive ResponseKind where
  | forwarded | generated
deriving DecidableEq, Repr

/-- Section 11.2: the event kinds. -/
inductive EventKind where
  | overDeclared | overCleared | starvedDeclared | starvedCleared
  | limitHigh | limitLow | crossingRising | crossingFalling
  | epochOverrun | responseExpired | lateResponse | underrun
  | protocolFault | poolPressureOn | poolPressureOff
  | upLinkDown | downLinkDown
  | actionDone | actionFault | actionMissed
deriving DecidableEq, Repr

/-- Section 11.2: the causes of PROTOCOL_FAULT. -/
inductive FaultCause where
  | malformed | duplicateTag | lengthMismatch | stray | overrun | badResponse
deriving DecidableEq, Repr

/-- Section 11.2: the answer codes. -/
inductive AnswerCode where
  | done | clamped | refusedState | badTarget
deriving DecidableEq, Repr

/-! ### Tables by class and by lane -/

/-- Four like things, one for each service class. -/
structure PerClass (α : Type) where
  prime : α
  record : α
  bulk : α
  scavenge : α
deriving DecidableEq, Repr

/-- Four like things, one for each lane. -/
structure PerLane (α : Type) where
  read : α
  write : α
  shared : α
  drain : α
deriving DecidableEq, Repr

/-! ### The Requester Match Unit -/

/-- R21: the configuration fields of one requester entry. -/
structure EntryConfig where
  enabled : Bool
  key : ReqId
  mask : ReqId
  cls : SvcClass
  windowBase : BitVec 36
  windowLimit : BitVec 36
  floor : Nat
  ceiling : Nat
  weight : Nat
  burst : Nat
  lendRatio : LendRatio
  refillSource : RefillSource
  pinnedRefill : Nat
  quota : Nat
  flightCap : Nat
  lowLimit : Nat
  highLimit : Nat
  offset : Nat
  crossing : CrossingMode
deriving DecidableEq, Repr

/-- R30: a class record. -/
structure ClassRecord where
  cutThrough : Bool
  startMark : Nat
  policy : PressurePolicy
deriving DecidableEq, Repr

/-- R20: the Requester Table's configuration fields and the class records. -/
@[ext]
structure MatchUnit where
  entries : Vector EntryConfig 48
  classes : PerClass ClassRecord
deriving DecidableEq, Repr

/-! ### Transactions, descriptors, reservations, the Hold Store -/

/-- What a descriptor, a granted release, a packet being sent and a flight entry all carry of a transaction:
kind, pair, span (R37, R123). -/
structure Txn where
  kind : Kind
  requesterId : ReqId
  tag : Tag
  address : Addr
  lengthMinusOne : BitVec 12
deriving DecidableEq, Repr

/-- R37: a descriptor in use. `number` is its place in the pool; `fence` is the number of its fence target;
`cells` names its reservation by the reservation's first cell. -/
structure Descriptor where
  number : Nat
  entry : EntryIx
  txn : Txn
  stamp : BitVec 32
  cells : Option Nat
  fence : Option Nat
deriving DecidableEq, Repr

/-- R40: a write's reservation. `lostBeat` records that a beat of the write was an overrun (R6, R53). -/
@[ext]
structure Reservation where
  txn : Txn
  entry : EntryIx
  cells : List Nat
  received : Nat
  data : DataState
  transmission : Transmission
  lostBeat : Bool
deriving DecidableEq, Repr

/-- The Hold Store (chapter 3). `held` is every held transaction in hold order: one entry's read or write hold
list is the part of it with that entry and kind (R41, R64). `bytes` is the content of the data cells. -/
@[ext]
structure HoldStore where
  held : List Descriptor
  arrivalCounter : BitVec 32
  reservations : List Reservation
  bytes : List Host.Cell
  pressureOn : Bool
  descriptorLow : Nat
  descriptorHigh : Nat
  cellLow : Nat
  cellHigh : Nat
  stalled : Bool
  retryDue : Bool
deriving DecidableEq, Repr

/-! ### The two ports -/

/-- A unit on a link (section 1.1). -/
inductive LinkUnit where
  | header (h : Header)
  | beat (b : Beat)
  | mark (m : Mark)
deriving DecidableEq, Repr

/-- R10: a header of the arrival queue with the beats of its packet that have arrived and the event that closed
the packet, if it has come. `lostBeat` records an overrun beat (R6). -/
structure ArrivalPacket where
  header : Header
  beats : List Beat
  closing : Option Closing
  lostBeat : Bool
deriving DecidableEq, Repr

/-- What the units now arriving from the switch belong to (R1): nothing that allows them, the open write at the
queue's tail, the write whose reservation begins at a cell, a write already answered, or an overrun header. -/
inductive UpReception where
  | stray
  | queued
  | cells (first : Nat)
  | answered
  | overrun
deriving DecidableEq, Repr

/-- The Upstream Port (chapter 1). `headerCredits` and `dataCredits` are the switch's response credits it holds;
the `advertised` pair are those it has advertised to the switch; `sent` is what it has put on the link. -/
@[ext]
structure UpPort where
  linkUp : Bool
  queue : List ArrivalPacket
  reception : UpReception
  generated : List Header
  headerCredits : Nat
  dataCredits : Nat
  headerAdvertised : Nat
  dataAdvertised : Nat
  lastKind : Option ResponseKind
  sent : List LinkUnit
deriving DecidableEq, Repr

/-- A memory response: its header and the beats that have arrived. -/
structure Response where
  header : Header
  beats : List Beat
deriving DecidableEq, Repr

/-- What the units now arriving from memory belong to (R1, R3): nothing that allows them, the response under
way, or a response already found malformed at a beat. -/
inductive DownReception where
  | stray
  | receiving (r : Response)
  | discarding
deriving DecidableEq, Repr

/-- The write packet the Downstream Port is sending (R14, R134). `waiting` says that an underrun wait runs. -/
structure Sending where
  txn : Txn
  entry : EntryIx
  cells : Nat
  beatsSent : Nat
  waiting : Bool
deriving DecidableEq, Repr

/-- The Downstream Port (chapter 1). `whole` holds the forwarded responses in the order they became whole;
the credit fields are as in `UpPort`, toward memory. -/
@[ext]
structure DownPort where
  linkUp : Bool
  headerCredits : Nat
  dataCredits : Nat
  headerAdvertised : Nat
  dataAdvertised : Nat
  whole : List Response
  reception : DownReception
  sending : Option Sending
  lastLane : Option LaneName
  sent : List LinkUnit
deriving DecidableEq, Repr

/-! ### The Grant Wheel -/

/-- R76: a slot. -/
structure Slot where
  cls : SvcClass
  enabled : Bool
deriving DecidableEq, Repr

/-- R85, R86, R91: what a visit's search has still to go through: the entries left of its rescue scan, then the entries
left of its class search, for a slot of this class. -/
structure SearchPlace where
  cls : SvcClass
  rescue : List EntryIx
  order : List EntryIx
deriving DecidableEq, Repr

/-- Where a walking lane stands at its slot: still to arrive there, arrived with the slot's class read
(SPLIT_LOCKED reads both slots of a pair in one act, R80), in a search that named a head which a discard then took, so
that it goes on from this place (R91, assumption 46), or with its visit done and waiting for its partner. -/
inductive VisitPhase where
  | arrive
  | visiting (c : SvcClass)
  | searching (p : SearchPlace)
  | done
deriving DecidableEq, Repr

/-- A lane's place in its round. `released` and `woken` are of the round under way (R82); `held` says that the lane
ended a round while the stored settings differed from the applied ones, and waits in IDLE for the changeover
(R77, assumption 41). -/
@[ext]
structure Lane where
  motion : LaneMotion
  slot : Fin 16
  phase : VisitPhase
  released : Bool
  woken : Bool
  held : Bool
deriving DecidableEq, Repr

/-- R90, R92: a granted release that has not begun, with the lane that holds it. `cut` marks a cut release
(R140). -/
structure Grant where
  holder : LaneName
  entry : EntryIx
  txn : Txn
  cells : Option Nat
  cut : Bool
deriving DecidableEq, Repr

/-- The Grant Wheel (chapter 5). `grants` holds the granted releases in the order they were released. -/
@[ext]
structure GrantWheel where
  slots : Vector Slot 16
  storedSplit : LaneSplit
  storedPacing : Pacing
  appliedSplit : LaneSplit
  appliedPacing : Pacing
  lanes : PerLane Lane
  readPointers : PerClass EntryIx
  writePointers : PerClass EntryIx
  grants : List Grant
deriving DecidableEq, Repr

/-! ### The Credit Engine -/

/-- R104: a credit record. -/
structure CreditRecord where
  balance : Int
  formulaRefill : Nat
deriving DecidableEq, Repr

/-- R106: what the snapshot holds of one entry of the enabled set. -/
structure SnapshotRow where
  entry : EntryIx
  floor : Nat
  ceiling : Nat
  weight : Nat
  lendRatio : LendRatio
  refillSource : RefillSource
  pinnedRefill : Nat
  state : ReqState
  backlogged : Bool
deriving DecidableEq, Repr

/-- R106: a refill pass's snapshot; the enabled set is the entries of `rows`, in index order. -/
structure Snapshot where
  rows : List SnapshotRow
  lent : Nat
  portEpochBytes : Nat
  penaltyScale : Nat
  rescueScale : Nat
deriving DecidableEq, Repr

/-- A running refill pass: its snapshot, the index it has come to, and the entries enabled since its snapshot, which
receive nothing from it (R32, R117, assumption 36). -/
structure RefillPass where
  snapshot : Snapshot
  next : Nat
  enabledSince : List EntryIx
deriving DecidableEq, Repr

/-- The Credit Engine (chapter 6). `interval` is the period of the timer's interval under way (R100); `pass` is
none while the pass activity is IDLE; `accumulator` is the lending accumulator (R106, R112, R122, assumption 48). -/
@[ext]
structure CreditEngine where
  epochPeriod : Nat
  interval : Nat
  epochSource : EpochSource
  epochCounter : BitVec 16
  records : Vector CreditRecord 48
  lent : Nat
  accumulator : Nat
  overcommit : Bool
  pass : Option RefillPass
  portEpochBytes : Nat
  penaltyScale : Nat
  rescueScale : Nat
  readFactor : Nat
  writeFactor : Nat
deriving DecidableEq, Repr

/-! ### The Flight Unit -/

/-- R123: a Flight Table entry in use; `timer` is the time loaded, in µs. -/
structure FlightEntry where
  txn : Txn
  entry : EntryIx
  phase : FlightPhase
  timer : Option Nat
  orphan : Bool
deriving DecidableEq, Repr

/-- R141: the four counters of one requester entry. -/
structure Counters where
  released : Nat
  deferrals : Nat
  refusals : Nat
  timeouts : Nat
deriving DecidableEq, Repr

/-- The Flight Unit (chapter 7). -/
@[ext]
structure FlightUnit where
  table : List FlightEntry
  responseTimeout : Nat
  counters : Vector Counters 48
deriving DecidableEq, Repr

/-! ### The Meter Unit -/

/-- R149: a closing record. -/
structure ClosingRecord where
  released : Nat
  measured : Nat
  backlog : Bool
  deferrals : Nat
  windowEpochs : Nat
  evaluation : Evaluation
  fresh : Bool
deriving DecidableEq, Repr

/-- What the Meter Unit holds for one entry: its state, the three accumulators of the open window (R147), its
closing record, its persistence counts (R154) and its last crossing sign (R153). -/
@[ext]
structure MeterEntry where
  state : ReqState
  released : Nat
  backlog : Bool
  deferrals : Nat
  closing : ClosingRecord
  overCount : Nat
  starveCount : Nat
  clearCount : Nat
  lastSign : CrossSign
deriving DecidableEq, Repr

/-- The Meter Unit (chapter 8). `pass` is the index a running evaluation pass has come to; `heldClose` is, while
a close is held pending (R148), the number of further taken expiries. -/
@[ext]
structure MeterUnit where
  windowLength : Nat
  overDeclare : Nat
  overClear : Nat
  starveDeclare : Nat
  starveClear : Nat
  windowCount : Nat
  pass : Option Nat
  heldClose : Option Nat
  entries : Vector MeterEntry 48
  rescueList : List EntryIx
deriving DecidableEq, Repr

/-! ### The Change List Unit -/

/-- R175: a change-list entry, as written. -/
structure ListEntry where
  kind : Word
  target : BitVec 16
  value : Word
deriving DecidableEq, Repr

/-- The Change List Unit (chapter 10). `run` is the position of the run under way, none while the activity is
IDLE; `countdown` is the remaining count of a running countdown. -/
@[ext]
structure ChangeList where
  list : Vector ListEntry 32
  source : TriggerSource
  oneShot : Bool
  countdownLength : Nat
  armed : Bool
  countdown : Option Nat
  run : Option (Fin 32)
deriving DecidableEq, Repr

/-! ### The Management Port -/

/-- R189: an event record. -/
structure EventRecord where
  kind : EventKind
  entry : Option EntryIx
  value : Option Word
  stamp : BitVec 16
deriving DecidableEq, Repr

/-- Section 11.2: an answer. -/
structure Answer where
  code : AnswerCode
  value : Word
deriving DecidableEq, Repr

/-- R187: what the counter holding register holds: an entry's index and the copied high part. -/
structure HeldCounter where
  entry : EntryIx
  high : Nat
deriving DecidableEq, Repr

/-- R172: the blocks that take an act of their own at a soft reset. -/
inductive ResetBlock where
  | hold | wheel | credit | flight | meter | list
deriving DecidableEq, Repr

/-- The Management Port (chapters 9 and 11). `pulse` says that the part drives PACE high; `answer` is the answer
of the last frame taken; `resetsDue` are the blocks that it has handed a soft reset to and that have still to take their
act (R172, R173, assumption 47). -/
@[ext]
structure ManagementPort where
  mode : Mode
  remembered : RunMode
  ready : Bool
  events : List EventRecord
  eventMask : Word
  eventLost : Bool
  popped : Word
  holding : Option HeldCounter
  paceDirection : PaceDirection
  pulse : Bool
  resetsDue : List ResetBlock
  answer : Option Answer
deriving DecidableEq, Repr

end Sys2Proof.Machine
end

