-- ==== Sys2Proof/Machine/PowerOn.lean ====
section
/-! DEFINITION. The values each block takes at the end of power-on reset, block by block, each from the rule
that states it. -/

namespace Sys2Proof.Machine

/-- R23: entry 0 is enabled with mask 0; entries 1 to 47 are disabled with mask FFFFh. -/
def powerOnEntry (e : EntryIx) : EntryConfig :=
  { enabled := e == 0, key := 0, mask := if e == 0 then 0 else 0xFFFF, cls := .bulk,
    windowBase := 0, windowLimit := BitVec.allOnes 36,
    floor := 0, ceiling := 65535, weight := 16, burst := 16384,
    lendRatio := .none, refillSource := .formula, pinnedRefill := 0,
    quota := 64, flightCap := 32, lowLimit := 0, highLimit := 65535, offset := 0, crossing := .off }

/-- R23, R30. -/
def powerOnMatchUnit : MatchUnit :=
  { entries := Vector.ofFn powerOnEntry,
    classes :=
      { prime := ⟨false, 256, .stall⟩, record := ⟨false, 256, .stall⟩,
        bulk := ⟨false, 256, .defer⟩, scavenge := ⟨false, 256, .defer⟩ } }

/-- R37, R38, R39, R41, R51, R60. -/
def powerOnHoldStore : HoldStore :=
  { held := [], arrivalCounter := 0, reservations := [], bytes := [], pressureOn := false,
    descriptorLow := 64, descriptorHigh := 128, cellLow := 32, cellHigh := 64,
    stalled := false, retryDue := false }

/-- Section 1.4, R10, R11, R12: link down, queues empty, every credit count zero. -/
def powerOnUpPort : UpPort :=
  { linkUp := false, queue := [], reception := .stray, generated := [], headerCredits := 0, dataCredits := 0,
    headerAdvertised := 0, dataAdvertised := 0, lastKind := none, sent := [] }

/-- Sections 1.4 and 1.10, R13: link down, nothing being sent, every credit count zero. -/
def powerOnDownPort : DownPort :=
  { linkUp := false, headerCredits := 0, dataCredits := 0, headerAdvertised := 0, dataAdvertised := 0,
    whole := [], reception := .stray, sending := none, lastLane := none, sent := [] }

/-- R76: the class of a slot of the default wheel; both halves are alike. -/
def powerOnSlotClass (i : Fin 16) : SvcClass :=
  match i.val % 8 with
  | 1 => .record
  | 3 => .bulk
  | 5 => .record
  | 7 => .scavenge
  | _ => .prime

/-- R78, R99: a lane at power-on reset; the active lanes of the strap's mode are STOPPED, the others IDLE. -/
def powerOnLane (active : Bool) (first : Fin 16) : Lane :=
  { motion := if active then .stopped else .idle, slot := first, phase := .arrive,
    released := false, woken := false, held := false }

/-- R76, R77, R86, R99. -/
def powerOnGrantWheel (regulate : Bool) : GrantWheel :=
  { slots := Vector.ofFn (fun i => ⟨powerOnSlotClass i, true⟩),
    storedSplit := .splitFree, storedPacing := .continuous,
    appliedSplit := .splitFree, appliedPacing := .continuous,
    lanes := ⟨powerOnLane regulate 0, powerOnLane regulate 8, powerOnLane false 0, powerOnLane (!regulate) 0⟩,
    readPointers := ⟨0, 0, 0, 0⟩, writePointers := ⟨0, 0, 0, 0⟩, grants := [] }

/-- R100, R104, R105, R122. -/
def powerOnCreditEngine : CreditEngine :=
  { epochPeriod := 10, interval := 10, epochSource := .timer, epochCounter := 0,
    records := Vector.ofFn (fun e => ⟨if e.val = 0 then 16384 else 0, 0⟩),
    lent := 0, accumulator := 0, overcommit := false, pass := none,
    portEpochBytes := 16384, penaltyScale := 128, rescueScale := 384, readFactor := 320, writeFactor := 256 }

/-- R123, R126, R141, R143. -/
def powerOnFlightUnit : FlightUnit :=
  { table := [], responseTimeout := 200, counters := Vector.ofFn (fun _ => ⟨0, 0, 0, 0⟩) }

/-- R149: a closing record of zeros. -/
def clearedRecord : ClosingRecord :=
  { released := 0, measured := 0, backlog := false, deferrals := 0, windowEpochs := 0,
    evaluation := .evaluated, fresh := false }

/-- R161, R163: an entry's meter state with everything cleared. -/
def clearedMeter (state : ReqState) : MeterEntry :=
  { state := state, released := 0, backlog := false, deferrals := 0, closing := clearedRecord,
    overCount := 0, starveCount := 0, clearCount := 0, lastSign := .unknown }

/-- R144, R161. -/
def powerOnMeterUnit : MeterUnit :=
  { windowLength := 100, overDeclare := 3, overClear := 5, starveDeclare := 4, starveClear := 4,
    windowCount := 0, pass := none, heldClose := none,
    entries := Vector.ofFn (fun e => clearedMeter (if e.val = 0 then .normal else .disabled)),
    rescueList := [] }

/-- R175, R177, R178, R183. -/
def powerOnChangeList : ChangeList :=
  { list := Vector.ofFn (fun _ => ⟨0, 0, 0⟩), source := .go, oneShot := false, countdownLength := 1,
    armed := false, countdown := none, run := none }

/-- R167, R170, R192: the mode and the remembered mode are the strap's. -/
def powerOnManagementPort (regulate : Bool) : ManagementPort :=
  { mode := if regulate then .regulate else .bypass,
    remembered := if regulate then .regulate else .bypass,
    ready := false, events := [], eventMask := 0x1F3E1E, eventLost := false, popped := 0, holding := none,
    paceDirection := .input, pulse := false, resetsDue := [], answer := none }

end Sys2Proof.Machine
end

