-- ==== Sys2Proof/Machine/State.lean ====
section
/-! DEFINITION. The state of the whole part, the reasons a step can stop, and the state right after power-on
reset. -/

namespace Sys2Proof.Machine

/-- Why the machine stops with a fault: never. Every event of the part leads to a next state; whatever the
switch, memory or the controller does wrong, a rule of the manual says what the part does. -/
inductive Fault where
deriving DecidableEq, Repr

/-- Why a command has no meaning. -/
inductive Refusal where
  /-- Raised by an arm of exec that has no meaning yet; safe, since nothing is claimed of the command. No arm
  raises it. -/
  | notModelled (mnemonic : String)
deriving DecidableEq, Repr

/-- The whole part: the level of PORn, the ten blocks, the commands that wait (the model's own queue, first in
first out) and the number of free values used (the model's own, assumption 1). -/
@[ext]
structure State where
  powered : Bool
  up : UpPort
  dp : DownPort
  rmu : MatchUnit
  hs : HoldStore
  gw : GrantWheel
  ce : CreditEngine
  fu : FlightUnit
  mu : MeterUnit
  clu : ChangeList
  mp : ManagementPort
  pending : List Instr
  freeUsed : Nat
deriving DecidableEq, Repr

/-- The part at the end of power-on reset, with the MODE strap high or low (R167). -/
def State.powerOn (strapHigh : Bool) : State :=
  { powered := true, up := powerOnUpPort, dp := powerOnDownPort, rmu := powerOnMatchUnit, hs := powerOnHoldStore,
    gw := powerOnGrantWheel strapHigh, ce := powerOnCreditEngine, fu := powerOnFlightUnit, mu := powerOnMeterUnit,
    clu := powerOnChangeList, mp := powerOnManagementPort strapHigh, pending := [], freeUsed := 0 }

/-- The machine right after reset: the end of power-on reset with the MODE strap low, so BYPASS
(assumption 2, DESIGN CHOICE of the strap level). -/
def State.reset : State := State.powerOn false

end Sys2Proof.Machine
end

