-- ==== Sys2Proof/Machine/Ops.lean ====
section
/-! DEFINITION. The operations every block shares: reaching one block's state, tables by class and by lane,
headers and the answers built from them, posting an event, credit counts, counters. -/

namespace Sys2Proof.Machine

/-! ### Reaching one block -/

def State.onUp (f : UpPort → UpPort) (s : State) : State := { s with up := f s.up }
def State.onDp (f : DownPort → DownPort) (s : State) : State := { s with dp := f s.dp }
def State.onRmu (f : MatchUnit → MatchUnit) (s : State) : State := { s with rmu := f s.rmu }
def State.onHs (f : HoldStore → HoldStore) (s : State) : State := { s with hs := f s.hs }
def State.onGw (f : GrantWheel → GrantWheel) (s : State) : State := { s with gw := f s.gw }
def State.onCe (f : CreditEngine → CreditEngine) (s : State) : State := { s with ce := f s.ce }
def State.onFu (f : FlightUnit → FlightUnit) (s : State) : State := { s with fu := f s.fu }
def State.onMu (f : MeterUnit → MeterUnit) (s : State) : State := { s with mu := f s.mu }
def State.onClu (f : ChangeList → ChangeList) (s : State) : State := { s with clu := f s.clu }
def State.onMp (f : ManagementPort → ManagementPort) (s : State) : State := { s with mp := f s.mp }

/-- While PORn is low the part takes no event (section 9.3): the meaning of every command but PORn's own. -/
def whilePowered (f : State → State) (s : State) : Host.Outcome State Fault Refusal :=
  .next (if s.powered then f s else s)

/-! ### Tables by class and by lane -/

def PerClass.get {α : Type} (t : PerClass α) : SvcClass → α
  | .prime => t.prime
  | .record => t.record
  | .bulk => t.bulk
  | .scavenge => t.scavenge

def PerClass.set {α : Type} (t : PerClass α) (c : SvcClass) (a : α) : PerClass α :=
  match c with
  | .prime => { t with prime := a }
  | .record => { t with record := a }
  | .bulk => { t with bulk := a }
  | .scavenge => { t with scavenge := a }

def PerLane.get {α : Type} (t : PerLane α) : LaneName → α
  | .read => t.read
  | .write => t.write
  | .shared => t.shared
  | .drain => t.drain

def PerLane.set {α : Type} (t : PerLane α) (l : LaneName) (a : α) : PerLane α :=
  match l with
  | .read => { t with read := a }
  | .write => { t with write := a }
  | .shared => { t with shared := a }
  | .drain => { t with drain := a }

/-! ### Headers (section 1.2) and the responses the part originates (R4) -/

/-- The length a header carries: its length field is length minus 1. -/
def headerLength (h : Header) : Nat := h.lengthMinusOne.toNat + 1

def requestCode : Kind → BitVec 4
  | .read => 0x1
  | .write => 0x2

def responseCode : Kind → BitVec 4
  | .read => 0x9
  | .write => 0xA

def statusCode : Status → BitVec 4
  | .ok => 0x0
  | .media => 0x1
  | .defer => 0x8
  | .window => 0x9
  | .protocol => 0xA
  | .underrun => 0xB
  | .timeout => 0xC
  | .link => 0xD

/-- The bits a header's layout says are zero are not all zero (R3). -/
def zerosBroken (h : Header) : Bool :=
  h.tagZeros != 0 || h.lengthZeros != 0 || h.tailZeros != 0

/-- R3: a request header from the switch is malformed. -/
def requestMalformed (h : Header) : Bool :=
  (h.kindCode != requestCode .read && h.kindCode != requestCode .write)
    || h.statusCode != statusCode .ok
    || zerosBroken h
    || decide (2 ^ 48 < h.address.toNat + headerLength h)

/-- R3: a response header from memory breaks one of the three conditions a header shows by itself. -/
def responseMalformed (h : Header) : Bool :=
  (h.kindCode != responseCode .read && h.kindCode != responseCode .write)
    || (h.statusCode != statusCode .ok && h.statusCode != statusCode .media)
    || zerosBroken h

/-- A header whose kind code is 2h: the one request that beats and marks may follow (R2, R43). -/
def isWriteRequest (h : Header) : Bool := h.kindCode == requestCode .write

/-- R2: an OK READ response, the one response that carries beats. -/
def carriesData (h : Header) : Bool :=
  h.kindCode == responseCode .read && h.statusCode == statusCode .ok

/-- R4: the response the part originates to a request header. -/
def answerHeader (req : Header) (st : Status) : Header :=
  { kindCode := if req.kindCode == requestCode .read then responseCode .read else responseCode .write,
    statusCode := statusCode st, requesterId := req.requesterId, tagZeros := 0, tag := req.tag, lengthZeros := 0,
    lengthMinusOne := req.lengthMinusOne, address := req.address, tailZeros := 0 }

/-- R37: what a hold copies from a header. -/
def txnOf (h : Header) : Txn :=
  { kind := if isWriteRequest h then .write else .read, requesterId := h.requesterId, tag := h.tag,
    address := h.address, lengthMinusOne := h.lengthMinusOne }

def txnLength (t : Txn) : Nat := t.lengthMinusOne.toNat + 1

/-- The request header of a held or released transaction. -/
def requestHeader (t : Txn) : Header :=
  { kindCode := requestCode t.kind, statusCode := statusCode .ok, requesterId := t.requesterId, tagZeros := 0,
    tag := t.tag, lengthZeros := 0, lengthMinusOne := t.lengthMinusOne, address := t.address, tailZeros := 0 }

/-- R4, R129: the response the part originates to a held or released transaction. -/
def answerTxn (t : Txn) (st : Status) : Header := answerHeader (requestHeader t) st

/-- Two transactions carry the same requester id and tag. -/
def samePair (t : Txn) (rid : ReqId) (tag : Tag) : Bool := t.requesterId == rid && t.tag == tag

/-- R66: two spans share at least one byte. -/
def overlap (a b : Txn) : Bool :=
  decide (a.address.toNat ≤ b.address.toNat + txnLength b - 1)
    && decide (b.address.toNat ≤ a.address.toNat + txnLength a - 1)

/-- R2: the beats of a write, or of an OK READ response, of this length. -/
def beatsOf (length : Nat) : Nat := ceilDiv length Config.beatBytes

/-- R2: the bytes of beat k, counting from 1, of a packet of this length. -/
def beatSize (length k : Nat) : Nat :=
  if k < beatsOf length then Config.beatBytes else length - Config.beatBytes * (k - 1)

/-- R8: the data credits a request packet needs. -/
def requestBeats (t : Txn) : Nat :=
  match t.kind with
  | .read => 0
  | .write => beatsOf (txnLength t)

/-- R11: a record joins the generated-response queue, or is discarded while the upstream link is down. -/
def placeGenerated (h : Header) (s : State) : State :=
  if s.up.linkUp then s.onUp fun u => { u with generated := u.generated ++ [h] } else s

/-! ### Events (R189) -/

def eventCode : EventKind → Nat
  | .overDeclared => 0x01
  | .overCleared => 0x02
  | .starvedDeclared => 0x03
  | .starvedCleared => 0x04
  | .limitHigh => 0x05
  | .limitLow => 0x06
  | .crossingRising => 0x07
  | .crossingFalling => 0x08
  | .epochOverrun => 0x09
  | .responseExpired => 0x0A
  | .lateResponse => 0x0B
  | .underrun => 0x0C
  | .protocolFault => 0x0D
  | .poolPressureOn => 0x0E
  | .poolPressureOff => 0x0F
  | .upLinkDown => 0x10
  | .downLinkDown => 0x11
  | .actionDone => 0x12
  | .actionFault => 0x13
  | .actionMissed => 0x14

def causeCode : FaultCause → Nat
  | .malformed => 1
  | .duplicateTag => 2
  | .lengthMismatch => 3
  | .stray => 4
  | .overrun => 5
  | .badResponse => 6

/-- R189: a post is masked off, dropped with EVENT_LOST set, or queued with the epoch counter as its stamp. -/
def postEvent (k : EventKind) (entry : Option EntryIx) (value : Option Nat) (s : State) : State :=
  if s.mp.eventMask.getLsbD (eventCode k) then
    if s.mp.events.length < Config.eventPlaces then
      s.onMp fun m =>
        { m with events := m.events ++ [⟨k, entry, value.map (BitVec.ofNat 32), s.ce.epochCounter⟩] }
    else s.onMp fun m => { m with eventLost := true }
  else s

/-- PROTOCOL_FAULT with its cause (section 11.2). -/
def postFault (cause : FaultCause) (entry : Option EntryIx) (s : State) : State :=
  postEvent .protocolFault entry (some (causeCode cause)) s

/-- The event value that carries a requester id in bits 16–31 and a tag in bits 0–9 (section 11.2). -/
def pairValue (rid : ReqId) (tag : Tag) : Nat := rid.toNat * 2 ^ 16 + tag.toNat

/-! ### Credits toward the link partners (section 1.4): counts are zero while the link is down -/

/-- R6: header credits go back to the switch. -/
def returnUpHeader (n : Nat) (s : State) : State :=
  if s.up.linkUp then s.onUp fun u => { u with headerAdvertised := u.headerAdvertised + n } else s

/-- R6: data credits go back to the switch. -/
def returnUpData (n : Nat) (s : State) : State :=
  if s.up.linkUp then s.onUp fun u => { u with dataAdvertised := u.dataAdvertised + n } else s

/-- R9: response credits go back to memory as response buffer places free. -/
def returnDown (headers beats : Nat) (s : State) : State :=
  if s.dp.linkUp then
    s.onDp fun d => { d with headerAdvertised := d.headerAdvertised + headers,
                             dataAdvertised := d.dataAdvertised + beats }
  else s

/-! ### Requester entries -/

/-- The class record that applies to an entry now (R31). -/
def classRecordOf (s : State) (e : EntryIx) : ClassRecord := s.rmu.classes.get s.rmu.entries[e].cls

/-- R26: does an entry's key and mask claim a requester id? -/
def claims (c : EntryConfig) (rid : ReqId) : Bool := (rid ^^^ c.key) &&& c.mask == 0

/-- R26: the lowest-indexed enabled entry of 1 to 47 that matches, or entry 0. -/
def matchEntry (s : State) (rid : ReqId) : EntryIx :=
  ((List.finRange 48).find? fun e => e.val != 0 && s.rmu.entries[e].enabled && claims s.rmu.entries[e] rid).getD 0

/-- R28: the span of a request lies within an entry's window. -/
def inWindow (c : EntryConfig) (t : Txn) : Bool :=
  decide (c.windowBase.toNat * 4096 ≤ t.address.toNat)
    && decide (t.address.toNat + txnLength t - 1 ≤ c.windowLimit.toNat * 4096 + 4095)

def setEntry (e : EntryIx) (f : EntryConfig → EntryConfig) (s : State) : State :=
  s.onRmu fun r => { r with entries := r.entries.set e (f r.entries[e]) }

def setMeter (e : EntryIx) (f : MeterEntry → MeterEntry) (s : State) : State :=
  s.onMu fun m => { m with entries := m.entries.set e (f m.entries[e]) }

def setBalance (e : EntryIx) (b : Int) (s : State) : State :=
  s.onCe fun c => { c with records := c.records.set e { c.records[e] with balance := b } }

/-! ### Per-entry counters (R141): each saturates at its top value -/

/-- A step that would pass the top value leaves the counter there. -/
def saturate (top n : Nat) : Nat := min n top

def setCounters (e : EntryIx) (f : Counters → Counters) (s : State) : State :=
  s.onFu fun u => { u with counters := u.counters.set e (f u.counters[e]) }

def countReleased (e : EntryIx) (n : Nat) : State → State :=
  setCounters e fun c => { c with released := saturate (2 ^ 40 - 1) (c.released + n) }

def countDeferral (e : EntryIx) : State → State :=
  setCounters e fun c => { c with deferrals := saturate (2 ^ 32 - 1) (c.deferrals + 1) }

def countRefusal (e : EntryIx) : State → State :=
  setCounters e fun c => { c with refusals := saturate (2 ^ 32 - 1) (c.refusals + 1) }

def countTimeout (e : EntryIx) : State → State :=
  setCounters e fun c => { c with timeouts := saturate (2 ^ 32 - 1) (c.timeouts + 1) }

end Sys2Proof.Machine
end

