-- ==== Sys2Proof/Machine/CellMemory.lean ====
section
/-! DEFINITION. The content of the data cells (R39): a list of (address, byte) pairs in one canonical form, where
the address of offset o in cell c is 512 × c + o. The start-up fill clears the storage behind the cells (section
9.4), so an unlisted address reads as 0. -/

namespace Sys2Proof.Machine

/-- What an address that is not listed reads as (assumption 3). -/
def unlistedByte : Byte := 0

/-- The canonical form: addresses strictly rising, no listed byte equal to what an unlisted address reads as. -/
def memoryWf : List Host.Cell → Bool
  | [] => true
  | (a, b) :: rest =>
    b != unlistedByte && rest.all (fun c => decide (a < c.1)) && memoryWf rest

def readByte (m : List Host.Cell) (a : Nat) : Byte :=
  match m with
  | [] => unlistedByte
  | (x, b) :: rest => if x = a then b else readByte rest a

/-- Writing keeps the canonical form: writing the byte an unlisted address reads as removes the entry. -/
def writeByte (m : List Host.Cell) (a : Nat) (b : Byte) : List Host.Cell :=
  match m with
  | [] => if b = unlistedByte then [] else [(a, b)]
  | (x, c) :: rest =>
    if a < x then
      if b = unlistedByte then (x, c) :: rest else (a, b) :: (x, c) :: rest
    else if a = x then
      if b = unlistedByte then rest else (a, b) :: rest
    else (x, c) :: writeByte rest a b

/-- R39: where byte k of a write with these cells is stored. -/
def cellAddress (cells : List Nat) (k : Nat) : Nat :=
  cells.getD (k / Config.cellBytes) 0 * Config.cellBytes + k % Config.cellBytes

/-- R52: the bytes of a beat are written from byte k of the write on. -/
def writeBytes (cells : List Nat) (k : Nat) : Beat → List Host.Cell → List Host.Cell
  | [], m => m
  | b :: bs, m => writeBytes cells (k + 1) bs (writeByte m (cellAddress cells k) b)

/-- R14: n bytes of a write, from byte k on, as they stand in its cells. -/
def readBytes (cells : List Nat) (m : List Host.Cell) (k : Nat) : Nat → Beat
  | 0 => []
  | n + 1 => readByte m (cellAddress cells k) :: readBytes cells m (k + 1) n

end Sys2Proof.Machine
end

