-- ==== Sys2Proof/Machine/Rounds.lean ====
section
/-! DEFINITION. The Grant Wheel's lanes and rounds (sections 5.1 to 5.3): which lanes are active, what a lane reads
as, how rounds begin and end, changeovers, wakes and PACED rounds. -/

namespace Sys2Proof.Machine

/-! ### Which lanes are active, and what they read as -/

/-- The mode that decides which lanes are active: the remembered mode when HALTED (R78, R97). -/
def effectiveMode (s : State) : RunMode :=
  match s.mp.mode with
  | .bypass => .bypass
  | .regulate => .regulate
  | .halted => s.mp.remembered

/-- R78: the active lanes of a mode and a lane split. -/
def activeLanes (m : RunMode) (split : LaneSplit) : List LaneName :=
  match m, split with
  | .bypass, _ => [.drain]
  | .regulate, .shared => [.shared]
  | .regulate, .splitLocked => [.read, .write]
  | .regulate, .splitFree => [.read, .write]

/-- R78: the lanes active now, apart from a lane that only keeps a granted release. -/
def lanesActive (s : State) : List LaneName := activeLanes (effectiveMode s) s.gw.appliedSplit

/-- The active lanes that walk slots. -/
def wheelLanes (s : State) : List LaneName := (lanesActive s).filter (· != .drain)

/-- The lanes stand STOPPED: the regulator is HALTED, or the downstream link is down (R78). -/
def lanesStopped (s : State) : Bool := s.mp.mode == .halted || !s.dp.linkUp

/-- The granted release a lane holds. -/
def grantOf (s : State) (l : LaneName) : Option Grant := s.gw.grants.find? (·.holder == l)

/-- R78: the state a lane reads as. -/
def laneState (s : State) (l : LaneName) : LaneState :=
  if (grantOf s l).isSome then .waitingLink
  else
    match (s.gw.lanes.get l).motion with
    | .idle => .idle
    | .walking => .walking
    | .stopped => .stopped

def setLane (l : LaneName) (f : Lane → Lane) (s : State) : State :=
  s.onGw fun g => { g with lanes := g.lanes.set l (f (g.lanes.get l)) }

/-- R79, R80: the first slot of a lane's walk. -/
def firstSlot : LaneName → Fin 16
  | .read => 0
  | .write => 8
  | .shared => 0
  | .drain => 0

/-- R79, R80: the last slot of a lane's walk. -/
def lastSlot : LaneName → Fin 16
  | .read => 7
  | .write => 15
  | .shared => 15
  | .drain => 15

/-- R77: the stored values differ from the applied ones. -/
def settingsDiffer (s : State) : Bool :=
  s.gw.storedSplit != s.gw.appliedSplit || s.gw.storedPacing != s.gw.appliedPacing

/-! ### Beginning and ending rounds -/

/-- A lane begins a round at the first slot of its walk. A lane that holds a granted release begins it in
WAITING_LINK there, with no search left to make at that slot (R95, R99), and such a round has released something
(R82). -/
def beginRound (l : LaneName) (s : State) : State :=
  let holds := (grantOf s l).isSome
  setLane l (fun _ => { motion := .walking, slot := firstSlot l, phase := if holds then .done else .arrive,
                        released := holds, woken := false, held := false }) s

/-- A lane comes to rest between rounds, or becomes inactive. -/
def restLane (l : LaneName) (s : State) : State := setLane l (fun x => { x with motion := .idle }) s

/-- A lane stands STOPPED. -/
def stopLane (l : LaneName) (s : State) : State := setLane l (fun x => { x with motion := .stopped }) s

/-- R77: a lane that has ended its round while the stored settings differ from the applied ones waits in IDLE for the
changeover. -/
def holdLane (l : LaneName) (s : State) : State := setLane l (fun x => { x with motion := .idle, held := true }) s

/-- How an active lane begins on a mode change, a changeover, a link coming up or a soft reset (R95 to R99): STOPPED
while HALTED or the link is down; the drain lane searches; a wheel lane begins a round, or waits in IDLE under
PACED. -/
def startLane (l : LaneName) (s : State) : State :=
  if lanesStopped s then stopLane l s
  else
    match l, s.gw.appliedPacing with
    | .drain, _ => setLane .drain (fun x => { x with motion := .walking }) s
    | l, .paced => restLane l s
    | l, .continuous => beginRound l s

/-- What becomes of one wheel lane at a changeover, for which it waits no more: a lane of the new arrangement begins
as `startLane` gives, but one held over a HALT by its granted release keeps its place (R97); a lane outside it rests,
keeping any granted release (R78). -/
def settleLane (l : LaneName) (s : State) : State :=
  let free := setLane l (fun x => { x with held := false }) s
  if l ∈ wheelLanes s then
    if lanesStopped s && (grantOf s l).isSome then free else startLane l free
  else restLane l free

/-- R77: a changeover copies the stored split and pacing to the applied ones. -/
def changeover (s : State) : State :=
  [LaneName.read, .write, .shared].foldl (fun t l => settleLane l t)
    (s.onGw fun g => { g with appliedSplit := g.storedSplit, appliedPacing := g.storedPacing })

/-- R77: a changeover is taken when the stored values differ and every lane that walks slots is between rounds. -/
def changeoverIfDue (s : State) : State :=
  if settingsDiffer s && (wheelLanes s).all (fun l => (s.gw.lanes.get l).motion != .walking) then changeover s else s

/-- R77, R82: the end of the round of these lanes (both split lanes together under SPLIT_LOCKED). While the stored
settings differ from the applied ones the lanes wait for the changeover, which is taken at once if it is now due;
otherwise, in CONTINUOUS, the next round begins at once if the round released something or was woken. -/
def endRound (ls : List LaneName) (s : State) : State :=
  let again := ls.any fun l => (s.gw.lanes.get l).released || (s.gw.lanes.get l).woken
  let rested := ls.foldl (fun t l => restLane l t) s
  if settingsDiffer s then changeoverIfDue (ls.foldl (fun t l => holdLane l t) s)
  else
    match s.gw.appliedPacing with
    | .paced => rested
    | .continuous => if again then ls.foldl (fun t l => beginRound l t) rested else rested

/-- R81: a lane's visit is done. Under SPLIT_LOCKED the lane waits for its partner; otherwise it moves to the next
slot of its walk, or its round ends. -/
def visitDone (l : LaneName) (s : State) : State :=
  match s.gw.appliedSplit with
  | .splitLocked => setLane l (fun x => { x with phase := .done }) s
  | .shared | .splitFree =>
    if (s.gw.lanes.get l).slot = lastSlot l then endRound [l] s
    else setLane l (fun x => { x with slot := x.slot + 1, phase := .arrive }) s

/-- A lane that was on its way to its slot has arrived there, and the slot's class is read (R76). -/
def arriveAt (l : LaneName) (c : SvcClass) (s : State) : State :=
  setLane l (fun x => if x.phase = .arrive then { x with phase := .visiting c } else x) s

/-- R80: both slots of the pair that the split lanes stand at are enabled. -/
def pairEnabled (s : State) : Bool :=
  s.gw.slots[(s.gw.lanes.get .read).slot].enabled && s.gw.slots[(s.gw.lanes.get .write).slot].enabled

/-- R80: both split lanes have come to their slots of a pair, each having read its own slot's class. -/
def arriveBoth (s : State) : State :=
  arriveAt .read s.gw.slots[(s.gw.lanes.get .read).slot].cls
    (arriveAt .write s.gw.slots[(s.gw.lanes.get .write).slot].cls s)

/-- R80: the act in which both split lanes come to their slots of a pair. A disabled slot ends the round for both
at once; a lane that still holds a granted release there keeps its partner waiting first (R95, assumption 12). -/
def pairArrive (s : State) : State :=
  if pairEnabled s then arriveBoth s
  else if (grantOf s .read).isNone && (grantOf s .write).isNone then endRound [.read, .write] s
  else
    setLane .read (fun x => { x with slot := lastSlot .read, phase := .done })
      (setLane .write (fun x => { x with slot := lastSlot .write, phase := .done }) s)

/-! ### Wakes and PACED rounds -/

/-- A lane stands IDLE and does not wait for a changeover: it may begin a round. One waits while the stored settings
differ from the applied ones, if it ended its round while they differed (R77, assumption 41). -/
def readyToBegin (s : State) (l : LaneName) : Bool :=
  laneState s l == .idle && !(settingsDiffer s && (s.gw.lanes.get l).held)

/-- R80: under SPLIT_LOCKED the lanes begin only together. -/
def mayBegin (s : State) : Bool :=
  s.gw.appliedSplit != .splitLocked || (wheelLanes s).all (readyToBegin s)

/-- The wheel lanes that stand IDLE and wait for no changeover begin a round. -/
def beginIdle (s : State) : State :=
  ((wheelLanes s).filter (readyToBegin s)).foldl (fun t l => beginRound l t) s

/-- R82: a WALKING lane marks its present round as woken. -/
def markWoken (s : State) : State :=
  ((wheelLanes s).filter (fun l => laneState s l == .walking)).foldl
    (fun t l => setLane l (fun x => { x with woken := true }) t) s

/-- R94: the drain lane in IDLE searches again on a wake. -/
def wakeDrain (s : State) : State :=
  if LaneName.drain ∈ lanesActive s && laneState s .drain == .idle then
    setLane .drain (fun x => { x with motion := .walking }) s
  else s

/-- R82, R94: a wake taken at the Grant Wheel. -/
def wake (s : State) : State :=
  let marked := markWoken s
  wakeDrain (if s.gw.appliedPacing == .continuous && mayBegin s then beginIdle marked else marked)

/-- Several reports, each a wake of its own (R40, R69, R70, R82): the first may begin a lane's round, and the next
then marks that round as woken. -/
def wakes : Nat → State → State
  | 0, s => s
  | n + 1, s => wakes n (wake s)

/-- One report, if there is anything to report. -/
def wakeIf (reported : Bool) (s : State) : State := if reported then wake s else s

/-- R83: an epoch expiry at the Grant Wheel. -/
def pacedExpiry (s : State) : State :=
  if s.gw.appliedPacing == .paced && mayBegin s then beginIdle s else s

end Sys2Proof.Machine
end

