-- ==== Sys2Proof/Machine/HoldStore.lean ====
section
/-! DEFINITION. The Hold Store's shared operations (chapters 3 and 4): pool counts, pressure, hold lists, fences,
reservations and the freeing of cells. -/

namespace Sys2Proof.Machine

/-! ### Pool counts and hold lists -/

/-- R37: free and held descriptors together are 512. -/
def freeDescriptors (s : State) : Nat := Config.descriptors - s.hs.held.length

/-- R39: the cells of every reservation. -/
def reservedCells (h : HoldStore) : List Nat := h.reservations.flatMap (·.cells)

/-- R39: free and reserved cells together are 256. -/
def freeCells (s : State) : Nat := Config.cells - (reservedCells s.hs).length

/-- R41: the hold list of one entry and kind, oldest first. -/
def holdList (s : State) (e : EntryIx) (k : Kind) : List Descriptor :=
  s.hs.held.filter fun d => d.entry == e && d.txn.kind == k

/-- R41: an entry's held count. -/
def heldCount (s : State) (e : EntryIx) : Nat := (s.hs.held.filter (·.entry == e)).length

/-- R41: the head of a hold list. -/
def headOf (s : State) (e : EntryIx) (k : Kind) : Option Descriptor := (holdList s e k).head?

/-- R65: the age of a held transaction, in holds taken since it, modulo 2^32. -/
def ageOf (s : State) (d : Descriptor) : Nat := (s.hs.arrivalCounter - d.stamp).toNat

/-- A descriptor's place in the pool is not visible outside the part (R37): the lowest free one. -/
def freshDescriptor (h : HoldStore) : Nat :=
  ((List.range Config.descriptors).find? fun n => h.held.all (·.number != n)).getD 0

/-- R39: the n lowest-numbered free cells, in increasing order. -/
def lowestFreeCells (h : HoldStore) (n : Nat) : List Nat :=
  ((List.range Config.cells).filter fun c => !(reservedCells h).contains c).take n

/-- R39: the cells a write of this length reserves. -/
def cellsFor (length : Nat) : Nat := ceilDiv length Config.cellBytes

/-! ### Pressure and the stall's retry -/

/-- The event value that carries the free descriptor and free cell counts (section 11.2). -/
def poolValue (s : State) : Nat := freeDescriptors s * 2 ^ 16 + freeCells s

/-- R51: the evaluation of pool pressure. -/
def evaluatePressure (s : State) : State :=
  let d := freeDescriptors s
  let c := freeCells s
  if s.hs.pressureOn then
    if max s.hs.descriptorHigh s.hs.descriptorLow ≤ d ∧ max s.hs.cellHigh s.hs.cellLow ≤ c
        ∧ s.hs.descriptorLow < d ∧ s.hs.cellLow < c then
      postEvent .poolPressureOff none (some (poolValue s)) (s.onHs fun h => { h with pressureOn := false })
    else s
  else if d ≤ s.hs.descriptorLow ∨ c ≤ s.hs.cellLow then
    postEvent .poolPressureOn none (some (poolValue s)) (s.onHs fun h => { h with pressureOn := true })
  else s

/-- R48: a freed descriptor or cell makes a stalled head's retry due. -/
def noteFreed (s : State) : State :=
  if s.hs.stalled then s.onHs fun h => { h with retryDue := true } else s

/-- What follows an act that freed descriptors or cells, once it has been taken whole (R58, R59). -/
def afterFreeing (s : State) : State := noteFreed (evaluatePressure s)

/-! ### Fences -/

/-- R67, R70: the youngest of these held transactions that is of this entry and kind and overlaps a span. -/
def youngestOverlap (ds : List Descriptor) (e : EntryIx) (k : Kind) (t : Txn) : Option Nat :=
  ((ds.filter fun d => d.entry == e && d.txn.kind == k && overlap d.txn t).getLast?).map (·.number)

/-- The other kind of transaction: a fence joins one of each (R66). -/
def otherKind : Kind → Kind
  | .read => .write
  | .write => .read

/-- R69: every fence on a target lifts. -/
def liftFences (target : Nat) (ds : List Descriptor) : List Descriptor :=
  ds.map fun d => if d.fence = some target then { d with fence := none } else d

/-- R70: every follower of a discarded target of this kind is given a new target among those held before it, or
its fence lifts. `before` is what was held before the list that is left to go through. -/
def retargetFences (target : Nat) (k : Kind) (before : List Descriptor) : List Descriptor → List Descriptor
  | [] => []
  | d :: rest =>
    let d' := if d.fence = some target then { d with fence := youngestOverlap before d.entry k d.txn } else d
    d' :: retargetFences target k (before ++ [d']) rest

/-- How many transactions that were fenced are fenced no more: each is a fence lift, and a wake (R70, R82). -/
def fencesLifted (before after : List Descriptor) : Nat :=
  (before.zip after).countP fun p => p.1.fence.isSome && p.2.fence.isNone

/-- One transaction is discarded from its list, and each fence lift is reported (R41, R58, R70). -/
def discardOne (d : Descriptor) (s : State) : State :=
  let left := s.hs.held.filter (·.number != d.number)
  let after := retargetFences d.number d.txn.kind [] left
  wakes (fencesLifted left after) (s.onHs fun h => { h with held := after })

/-! ### Reservations -/

/-- A reservation is named by its first cell, which belongs to no other (R39). -/
def firstCell (r : Reservation) : Nat := r.cells.headD 0

def reservationAt (s : State) (cell : Nat) : Option Reservation :=
  s.hs.reservations.find? fun r => firstCell r == cell

def setReservation (cell : Nat) (f : Reservation → Reservation) (s : State) : State :=
  s.onHs fun h => { h with reservations := h.reservations.map fun r => if firstCell r = cell then f r else r }

/-- R40: the data state changes, and the change is reported to the Grant Wheel as a wake. -/
def setData (cell : Nat) (d : DataState) (s : State) : State :=
  wake (setReservation cell (fun r => { r with data := d }) s)

def setTransmission (cell : Nat) (t : Transmission) (s : State) : State :=
  setReservation cell (fun r => { r with transmission := t }) s

/-- R59: both ends of a write's journey are finished. -/
def finished (r : Reservation) : Bool :=
  r.transmission == .done && (r.data == .complete || r.data == .closed)

/-- R59: the cells of a finished write return to the free pool and its reservation is deleted. -/
def reclaim (cell : Nat) (s : State) : State :=
  s.onHs fun h => { h with reservations := h.reservations.filter fun r => !(firstCell r == cell && finished r) }

/-- R59: the freeing of a write's cells, as one act, if both its ends are finished. -/
def freeCellsIfFinished (cell : Nat) (s : State) : State :=
  match reservationAt s cell with
  | some r => if finished r then afterFreeing (reclaim cell s) else s
  | none => s

/-- The held write whose reservation begins at a cell. -/
def heldWrite (s : State) (cell : Nat) : Option Descriptor := s.hs.held.find? (·.cells == some cell)

/-! ### Discards that empty lists (R33, R61, R63, R71) -/

/-- A disable or a soft reset of a held write: DONE, and DRAINING if it is still RECEIVING. -/
def drainReservation (r : Reservation) : Reservation :=
  { r with transmission := .done, data := if r.data = .receiving then .draining else r.data }

/-- Every reservation that a held transaction of `ds` owns is changed by `f`, and those then finished are freed. -/
def settleReservations (ds : List Descriptor) (f : Reservation → Reservation) (h : HoldStore) : HoldStore :=
  let owned := fun r : Reservation => ds.any fun d => d.cells == some (firstCell r)
  { h with reservations :=
      (h.reservations.map fun r => if owned r then f r else r).filter fun r => !(owned r && finished r) }

/-- How many writes' data states a discard of `ds` changes: each change is reported, and a wake (R40, R82). -/
def receivingCount (s : State) (ds : List Descriptor) : Nat :=
  s.hs.reservations.countP fun r => r.data == .receiving && ds.any fun d => d.cells == some (firstCell r)

/-- The held transactions of `ds` leave their lists in one act: every fence among them vanishes with them. -/
def discardAll (p : Descriptor → Bool) (f : Reservation → Reservation) (s : State) : State :=
  let gone := s.hs.held.filter p
  let dropped := s.onHs fun h => { settleReservations gone f h with held := h.held.filter fun d => !p d }
  let judged := evaluatePressure (wakes (receivingCount s gone) dropped)
  if gone.isEmpty then judged else noteFreed judged

/-- Each of these transactions is answered DEFER, in hold order (assumption 4). -/
def answerDefer (ds : List Descriptor) (s : State) : State :=
  ds.foldl (fun t d => placeGenerated (answerTxn d.txn .defer) t) s

end Sys2Proof.Machine
end

