-- ==== Sys2Proof/Machine/Search.lean ====
section
/-! DEFINITION. The searches of the wheel lanes (section 5.4): eligibility, the rescue scan, the class search, where a
lane's search stands, and a search whose named head a discard takes (R91). -/

namespace Sys2Proof.Machine

/-- R24, R123: an entry's flight count. -/
def flightCount (s : State) (e : EntryIx) : Nat := (s.fu.table.filter (·.entry == e)).length

/-! ### Eligibility (R88) -/

/-- R88: a write's data is ready: COMPLETE, or cut-through with enough bytes received. A read has none to wait
for. -/
def dataReady (s : State) (d : Descriptor) : Bool :=
  match d.cells with
  | none => true
  | some c =>
    match reservationAt s c with
    | none => false
    | some r =>
      r.data == .complete ||
        ((classRecordOf s d.entry).cutThrough && decide ((classRecordOf s d.entry).startMark ≤ r.received))

/-- R88, R93: the entry is below its flight cap and the Flight Table has a free entry. -/
def flightRoom (s : State) (e : EntryIx) : Bool :=
  decide (flightCount s e < s.rmu.entries[e].flightCap) && decide (s.fu.table.length < Config.flightPlaces)

/-- R88: a head is eligible for a wheel lane. -/
def eligible (s : State) (d : Descriptor) : Bool :=
  s.rmu.entries[d.entry].enabled && d.fence.isNone && dataReady s d
    && decide (0 ≤ s.ce.records[d.entry].balance) && flightRoom s d.entry

/-- The head of a hold list, if it is eligible. -/
def eligibleHead (s : State) (e : EntryIx) (k : Kind) : Option Descriptor := (headOf s e k).filter (eligible s)

/-- R65, R87: of an entry's two eligible heads, the older, a read before a write of equal age. -/
def olderHead (s : State) : Option Descriptor → Option Descriptor → Option Descriptor
  | some r, some w => if ageOf s w ≤ ageOf s r then some r else some w
  | some r, none => some r
  | none, some w => some w
  | none, none => none

/-- R85, R87: an entry's eligible lane head. -/
def laneHead (s : State) (l : LaneName) (e : EntryIx) : Option Descriptor :=
  match l with
  | .read => eligibleHead s e .read
  | .write => eligibleHead s e .write
  | .shared => olderHead s (eligibleHead s e .read) (eligibleHead s e .write)
  | .drain => none

/-! ### The two searches -/

/-- R85: the lane head of the first of these entries, of the rescue list, that has an eligible one. -/
def rescueScan (s : State) (l : LaneName) (es : List EntryIx) : Option Descriptor := es.findSome? (laneHead s l)

/-- R86: the lane's rotation pointer for a class; the SHARED lane uses the read lane's. -/
def pointerOf (g : GrantWheel) (l : LaneName) (c : SvcClass) : EntryIx :=
  match l with
  | .write => g.writePointers.get c
  | .read => g.readPointers.get c
  | .shared => g.readPointers.get c
  | .drain => g.readPointers.get c

/-- R86: entries in index order from the one after the pointer, wrapping from 47 to 0 and ending at the pointer's
own. -/
def searchOrder (p : EntryIx) : List EntryIx := (List.finRange 48).map fun k => p + 1 + k

/-- R86: the class search, through these entries. -/
def classSearch (s : State) (l : LaneName) (c : SvcClass) (es : List EntryIx) : Option Descriptor :=
  es.findSome? fun e =>
    if s.rmu.entries[e].cls = c ∧ s.rmu.entries[e].enabled then laneHead s l e else none

/-- R84 to R86: what the search of a visit of a slot of class c goes through. A PRIME slot has no rescue scan. -/
def slotSearch (s : State) (l : LaneName) (c : SvcClass) : SearchPlace :=
  { cls := c, rescue := if c = .prime then [] else s.mu.rescueList, order := searchOrder (pointerOf s.gw l c) }

/-! ### A search that finds its head gone (R91) -/

/-- The search that a wheel lane's next visit makes as things stand: none unless the lane is WALKING with a visit to
make at an enabled slot. -/
def searchPlace (s : State) (l : LaneName) : Option SearchPlace :=
  let lane := s.gw.lanes.get l
  let slot := s.gw.slots[lane.slot]
  if l ∈ wheelLanes s ∧ laneState s l = .walking ∧ !lanesStopped s then
    match lane.phase, s.gw.appliedSplit with
    | .searching p, _ => some p
    | .visiting c, .splitLocked => some (slotSearch s l c)
    | .done, .splitLocked => none
    | .arrive, .splitLocked => if pairEnabled s then some (slotSearch s l slot.cls) else none
    | .arrive, .shared | .arrive, .splitFree | .visiting _, .shared | .visiting _, .splitFree | .done, .shared
    | .done, .splitFree =>
      if slot.enabled then some (slotSearch s l slot.cls) else none
  else none

/-- The entries that come after one in the order of a step. -/
def entriesAfter (e : EntryIx) (es : List EntryIx) : List EntryIx := (es.dropWhile (· != e)).drop 1

/-- R91: if a search from this place names `d`, the place after `d`'s entry, in the order of the step that names it. -/
def placeAfter (s : State) (l : LaneName) (p : SearchPlace) (d : Descriptor) : Option SearchPlace :=
  match rescueScan s l p.rescue with
  | some x => if x = d then some { p with rescue := entriesAfter d.entry p.rescue } else none
  | none =>
    match classSearch s l p.cls p.order with
    | some x => if x = d then some { p with rescue := [], order := entriesAfter d.entry p.order } else none
    | none => none

/-- R95: the lane of an arrangement that releases transactions of this kind. -/
def laneFor (split : LaneSplit) (k : Kind) : LaneName :=
  match split, k with
  | .shared, _ => .shared
  | .splitLocked, .read => .read
  | .splitLocked, .write => .write
  | .splitFree, .read => .read
  | .splitFree, .write => .write

/-- R91: had the search of a visit under way named the head that a discard takes? It may have or not, and a free value
decides (assumption 46). -/
def hadNamed (s : State) : Bool := (Config.freeValue s.freeUsed).getLsbD 0

/-- R80, R91: the lane's search stands at this place. Under SPLIT_LOCKED a search has begun only once both lanes have
come to their slots. -/
def standAt (l : LaneName) (p : SearchPlace) (s : State) : State :=
  let arrived :=
    if s.gw.appliedSplit = .splitLocked ∧ (s.gw.lanes.get l).phase = .arrive then arriveBoth s else s
  setLane l (fun x => { x with phase := .searching p }) arrived

/-- R91: before the discard of `d` is taken: if the lane that releases its kind would name it at its next visit, that
visit's search may have named it already, and then goes on from the entry after it. -/
def nameGone (d : Descriptor) (s : State) : State :=
  let l := laneFor s.gw.appliedSplit d.txn.kind
  match (searchPlace s l).bind fun p => placeAfter s l p d with
  | none => s
  | some p => { (if hadNamed s then standAt l p s else s) with freeUsed := s.freeUsed + 1 }

/-- R91: would the next visit of the lane that releases its kind name this head? -/
def wouldName (s : State) (d : Descriptor) : Bool :=
  let l := laneFor s.gw.appliedSplit d.txn.kind
  ((searchPlace s l).bind fun p => placeAfter s l p d).isSome

/-- R91: before a discard of every held transaction that meets `p` is taken, as one act: each head among them that a
search may have named. -/
def namesGone (p : Descriptor → Bool) (s : State) : State :=
  (s.hs.held.filter fun d => p d && wouldName s d).foldl (fun t d => nameGone d t) s

end Sys2Proof.Machine
end

