-- ==== Sys2Proof/Machine/Flight.lean ====
section
/-! DEFINITION. The Flight Unit's shared operations and the upstream side of a write (sections 3.6, 7.1 to 7.3, 7.6
and 7.7): removing and answering flight entries, cutting a released write, landing beats, and the events that close
a write's reception. -/

namespace Sys2Proof.Machine

/-! ### The Flight Table -/

/-- The flight entry that holds a pair; no two do (R45). -/
def flightOf (s : State) (rid : ReqId) (tag : Tag) : Option FlightEntry :=
  s.fu.table.find? fun f => samePair f.txn rid tag

/-- A flight entry is removed; the removal is reported to the Grant Wheel as a wake (R82). -/
def removeFlight (rid : ReqId) (tag : Tag) (s : State) : State :=
  if (flightOf s rid tag).isSome then
    wake (s.onFu fun u => { u with table := u.table.filter fun f => !samePair f.txn rid tag })
  else s

/-- R126: the timer an entry is given as it enters AWAITING. -/
def loadedTimer (s : State) : Option Nat :=
  if s.fu.responseTimeout = 0 then none else some s.fu.responseTimeout

/-- R125: the Downstream Port's report that a packet has begun. -/
def flightBegins (t : Txn) (s : State) : State :=
  s.onFu fun u =>
    { u with
      table := u.table.map fun f =>
        if samePair f.txn t.requesterId t.tag && f.phase == .granted then { f with phase := .sending } else f }

/-- R125, R126: the report that a packet has ended whole. -/
def flightAwaits (t : Txn) (s : State) : State :=
  s.onFu fun u =>
    { u with
      table := u.table.map fun f =>
        if samePair f.txn t.requesterId t.tag && f.phase == .sending then
          { f with phase := .awaiting, timer := loadedTimer s }
        else f }

/-- R132: a transaction in flight is answered unless its entry is an orphan. -/
def answerFlight (f : FlightEntry) (st : Status) (s : State) : State :=
  if f.orphan then s else placeGenerated (answerTxn f.txn st) s

/-! ### Readiness of the next unit of the packet being sent (R134) -/

/-- R134: is the next unit of this packet ready? Beat k once the smaller of 64 × k and the length has been
received; the end mark once the data state is COMPLETE. -/
def nextUnitReady (s : State) (p : Sending) : Bool :=
  match reservationAt s p.cells with
  | none => false
  | some r =>
    if p.beatsSent < requestBeats p.txn then
      decide (min (Config.beatBytes * (p.beatsSent + 1)) (txnLength p.txn) ≤ r.received)
    else r.data == .complete

/-- R134: the underrun wait of the write whose reservation begins at `cell` ends as its unit becomes ready. -/
def endWaitIfReady (cell : Nat) (s : State) : State :=
  match s.dp.sending with
  | none => s
  | some p =>
    if p.cells == cell && p.waiting && nextUnitReady s p then s.onDp fun d => { d with sending := some { p with waiting := false } }
    else s

/-! ### A held write discarded from upstream (section 3.6) -/

/-- A held write is discarded: a search that had named it goes on after it (R91), it leaves its list, its transmission
becomes DONE, its data state becomes `d`, and its cells are freed at once if that closes it (R54, R56, R58, R59).
Pressure is evaluated once the whole act has been taken (`afterFreeing`). -/
def discardHeldWrite (desc : Descriptor) (cell : Nat) (d : DataState) (s : State) : State :=
  reclaim cell (setTransmission cell .done (setData cell d (discardOne desc (nameGone desc s))))

/-! ### A released write cut from upstream (section 7.7) -/

/-- R138, R140: the packet of a released write is cut: an abort mark now if it is being sent, or a cut release if
it waits in its lane. -/
def cutReleased (cell : Nat) (s : State) : State :=
  if s.dp.sending.any (·.cells == cell) then
    setTransmission cell .done
      (s.onDp fun d => { d with sending := none, sent := d.sent ++ [.mark .abortMark] })
  else
    s.onGw fun g => { g with grants := g.grants.map fun x => if x.cells = some cell then { x with cut := true } else x }

/-- R54, R55, R139: a length mismatch of the write whose reservation begins at `cell`; `d` is CLOSED at a closing
event and DRAINING at a beat. Pressure is evaluated once the act has been taken whole (R51, R54, R58). -/
def lengthMismatch (cell : Nat) (d : DataState) (s : State) : State :=
  match reservationAt s cell with
  | none => s
  | some r =>
    match heldWrite s cell with
    | some desc =>
      afterFreeing
        (postFault .lengthMismatch (some desc.entry)
          (countRefusal desc.entry (placeGenerated (answerTxn desc.txn .protocol) (discardHeldWrite desc cell d s))))
    | none =>
      if r.transmission = .done then freeCellsIfFinished cell (setData cell d s)
      else
        let removed := removeFlight r.txn.requesterId r.txn.tag (setData cell d s)
        let answered :=
          match flightOf s r.txn.requesterId r.txn.tag with
          | some f => answerFlight f .protocol removed
          | none => removed
        freeCellsIfFinished cell
          (postFault .lengthMismatch (some r.entry) (cutReleased cell (countRefusal r.entry answered)))

/-- R56, R138: a requester abort of the write whose reservation begins at `cell`. -/
def requesterAborts (cell : Nat) (s : State) : State :=
  match reservationAt s cell with
  | none => s
  | some r =>
    match heldWrite s cell with
    | some desc => afterFreeing (discardHeldWrite desc cell .closed s)
    | none =>
      if r.transmission = .done then freeCellsIfFinished cell (setData cell .closed s)
      else
        freeCellsIfFinished cell
          (cutReleased cell (removeFlight r.txn.requesterId r.txn.tag (setData cell .closed s)))

/-- R53: an event closes the reception of the write whose reservation begins at `cell`. A RECEIVING write closed by an
abort mark is a requester abort even if it has lost a beat to overrun (assumption 33). -/
def closeReception (cell : Nat) (ev : Closing) (s : State) : State :=
  match reservationAt s cell with
  | none => s
  | some r =>
    match r.data with
    | .receiving =>
      match ev with
      | .endMark =>
        if r.received = txnLength r.txn ∧ r.lostBeat = false then
          freeCellsIfFinished cell (endWaitIfReady cell (setData cell .complete s))
        else lengthMismatch cell .closed s
      | .nextHeader => lengthMismatch cell .closed s
      | .abortMark => requesterAborts cell s
      | .linkDown => requesterAborts cell s
    | .draining => freeCellsIfFinished cell (setData cell .closed s)
    | .complete => s
    | .closed => s

/-- R52: a beat reaches the write whose reservation begins at `cell`, from the link or from the arrival queue; its
data credit goes back whatever becomes of it. Whether it follows a short beat is judged by the bytes received, so a
short beat that was lost to overrun counts for nothing here (assumption 45). -/
def landBeat (cell : Nat) (b : Beat) (s : State) : State :=
  returnUpData 1 <|
    match reservationAt s cell with
    | none => s
    | some r =>
      match r.data with
      | .receiving =>
        if txnLength r.txn < r.received + b.length ∨ r.received % Config.beatBytes ≠ 0 then
          lengthMismatch cell .draining s
        else
          endWaitIfReady cell <| wake <|
            setReservation cell (fun r => { r with received := r.received + b.length })
              (s.onHs fun h => { h with bytes := writeBytes r.cells r.received b h.bytes })
      | .draining => s
      | .complete => s
      | .closed => s

/-! ### Responses from memory (section 7.3) -/

/-- R127: the AWAITING flight entry a response matches, by pair and kind. -/
def responseMatch (s : State) (h : Header) : Option FlightEntry :=
  s.fu.table.find? fun f =>
    samePair f.txn h.requesterId h.tag && f.phase == .awaiting && responseCode f.txn.kind == h.kindCode

/-- R127, R128: a whole response is handed to the Flight Unit: forwarded, discarded as an orphan's, or late. -/
def handResponse (r : Response) (s : State) : State :=
  match responseMatch s r.header with
  | some f =>
    let removed := removeFlight f.txn.requesterId f.txn.tag s
    if f.orphan then returnDown 1 r.beats.length removed
    else removed.onDp fun d => { d with whole := d.whole ++ [r] }
  | none =>
    postEvent .lateResponse (some (matchEntry s r.header.requesterId))
      (some (pairValue r.header.requesterId r.header.tag)) (returnDown 1 r.beats.length s)

end Sys2Proof.Machine
end

