-- ==== Sys2Proof/Machine/Trigger.lean ====
section
/-! DEFINITION. The Change List Unit's triggers, arm flag and countdown (section 10.2). -/

namespace Sys2Proof.Machine

/-- R179: a trigger event reaches the Change List Unit. One of another kind than the source is ignored (R177); one
taken while a run is under way is missed; otherwise, if the arm flag is set, a run starts. -/
def trigger (k : TriggerSource) (s : State) : State :=
  if k = s.clu.source then
    match s.clu.run with
    | some p => postEvent .actionMissed none (some p.val) s
    | none => if s.clu.armed then s.onClu fun c => { c with run := some 0, armed := !c.oneShot } else s
  else s

/-- R178: a running countdown loses one at an epoch expiry. One that has reached 0 stays there until its own
expiry is taken. -/
def countDown (s : State) : State := s.onClu fun c => { c with countdown := c.countdown.map (· - 1) }

/-- R178: the expiry of the countdown that has reached 0, if it has not been stopped or loaded again since
(assumption 13). -/
def countdownExpires (s : State) : State :=
  if s.clu.countdown = some 0 then trigger .countdown (s.onClu fun c => { c with countdown := none }) else s

/-- COUNTDOWN_EXPIRY. -/
def execCountdownExpiry (s : State) : Host.Outcome State Fault Refusal := whilePowered countdownExpires s

end Sys2Proof.Machine
end

