-- ==== Sys2Proof/Machine/Meter.lean ====
section
/-! DEFINITION. The Meter Unit (chapter 8): taken expiries and window closes, the evaluation of one entry, the
evaluation pass. -/

namespace Sys2Proof.Machine

/-! ### Windows (R145 to R148) -/

/-- R152: the measured value of a window. -/
def measuredOf (released : Nat) : Nat := min (released / 256) 65535

/-- R146: one entry at a window close: its accumulators move into its closing record. -/
def closeEntry (enabled : Bool) (epochs : Nat) (m : MeterEntry) : MeterEntry :=
  { m with
    closing := { released := m.released, measured := measuredOf m.released, backlog := m.backlog,
                 deferrals := m.deferrals, windowEpochs := epochs,
                 evaluation := if enabled then .pending else .evaluated, fresh := true },
    released := 0, backlog := false, deferrals := 0 }

/-- R146, R148: the open window closes, and the new window's count starts at `further`. Every one of the 48 closing
records is written, also one that a disable taken during the last pass has left PENDING (assumption 44). -/
def closeWindow (further : Nat) (s : State) : State :=
  s.onMu fun m =>
    { m with entries := Vector.ofFn fun e : EntryIx => closeEntry s.rmu.entries[e].enabled m.windowCount m.entries[e],
             windowCount := further, pass := some 0, heldClose := none }

/-- R145, step 1: each entry of the backlog set has its backlog flag set. -/
def markBacklog (backlog : EntryIx → Bool) (s : State) : State :=
  s.onMu fun m =>
    { m with entries := Vector.ofFn fun e : EntryIx => { m.entries[e] with backlog := m.entries[e].backlog || backlog e } }

/-- R145: a count of taken epochs with one more. The count's range ends at 255, and the manual states no value for
one that would pass it: a free value of the range (assumption 5). -/
def oneMoreEpoch (n : Nat) (s : State) : Nat :=
  if n < 255 then n + 1 else (Config.freeValue s.freeUsed).toNat % 256

/-- A count past its range has used a free value. -/
def noteFreeEpoch (n : Nat) (s : State) : State := if n < 255 then s else { s with freeUsed := s.freeUsed + 1 }

/-- R145, R148: a taken expiry at the Meter Unit. -/
def meterExpiry (backlog : EntryIx → Bool) (s : State) : State :=
  let flagged := markBacklog backlog s
  match s.mu.heldClose with
  | some n => noteFreeEpoch n (flagged.onMu fun m => { m with heldClose := some (oneMoreEpoch n s) })
  | none =>
    let counted :=
      noteFreeEpoch s.mu.windowCount (flagged.onMu fun m => { m with windowCount := oneMoreEpoch m.windowCount s })
    if s.mu.windowLength ≤ s.mu.windowCount + 1 then
      if s.mu.pass.isSome then counted.onMu fun m => { m with heldClose := some 0 } else closeWindow 0 counted
    else counted

/-! ### The evaluation of one entry (R151 to R156) -/

/-- R152: the effective low limit. -/
def lowLimitOf (c : EntryConfig) : Nat := min c.lowLimit c.highLimit

/-- R152: over the high limit. -/
def overHigh (c : EntryConfig) (r : ClosingRecord) : Bool := decide (c.highLimit < r.measured)

/-- R152: starved. -/
def starvedWindow (c : EntryConfig) (r : ClosingRecord) : Bool := r.backlog && decide (r.measured < lowLimitOf c)

/-- R152: LIMIT_HIGH or LIMIT_LOW. -/
def postLimits (e : EntryIx) (c : EntryConfig) (r : ClosingRecord) (s : State) : State :=
  if overHigh c r then postEvent .limitHigh (some e) (some r.measured) s
  else if starvedWindow c r then postEvent .limitLow (some e) (some r.measured) s
  else s

/-- R153: the sign of a window, unknown when the offset turns the test off. -/
def windowSign (c : EntryConfig) (r : ClosingRecord) : CrossSign :=
  if 0 < c.offset ∧ c.offset < 65535 then if c.offset ≤ r.measured then .above else .below else .unknown

/-- R153: the crossing event, if the window is a crossing that the crossing mode reports. -/
def postCrossing (e : EntryIx) (c : EntryConfig) (r : ClosingRecord) (last : CrossSign) (s : State) : State :=
  match last, windowSign c r with
  | .above, .below =>
    if c.crossing = .falling ∨ c.crossing = .both then postEvent .crossingFalling (some e) (some r.measured) s else s
  | .below, .above =>
    if c.crossing = .rising ∨ c.crossing = .both then postEvent .crossingRising (some e) (some r.measured) s else s
  | _, _ => s

/-- R155: the four transitions of a requester state. -/
inductive Transition where
  | overDeclared | overCleared | starvedDeclared | starvedCleared
deriving DecidableEq, Repr

/-- R154: a persistence count after a step. -/
def stepCount (n : Nat) : Nat := saturate 255 (n + 1)

/-- R154: the transition an evaluation takes, from the counts as its step leaves them. -/
def transitionOf (u : MeterUnit) (c : EntryConfig) (m : MeterEntry) : Option Transition :=
  match m.state with
  | .normal =>
    if overHigh c m.closing then if u.overDeclare ≤ stepCount m.overCount then some .overDeclared else none
    else if starvedWindow c m.closing then
      if u.starveDeclare ≤ stepCount m.starveCount then some .starvedDeclared else none
    else none
  | .over => if !overHigh c m.closing && decide (u.overClear ≤ stepCount m.clearCount) then some .overCleared else none
  | .starved =>
    if !starvedWindow c m.closing && decide (u.starveClear ≤ stepCount m.clearCount) then some .starvedCleared else none
  | .disabled => none

/-- R154: the three persistence counts stepped without a transition. -/
def steppedCounts (c : EntryConfig) (m : MeterEntry) : MeterEntry :=
  match m.state with
  | .normal =>
    { m with overCount := if overHigh c m.closing then stepCount m.overCount else 0,
             starveCount := if starvedWindow c m.closing then stepCount m.starveCount else 0 }
  | .over => { m with clearCount := if overHigh c m.closing then 0 else stepCount m.clearCount }
  | .starved => { m with clearCount := if starvedWindow c m.closing then 0 else stepCount m.clearCount }
  | .disabled => m

/-- R155: the state a transition leads to. -/
def stateAfter : Transition → ReqState
  | .overDeclared => .over
  | .overCleared => .normal
  | .starvedDeclared => .starved
  | .starvedCleared => .normal

/-- R154, R155: what an evaluation leaves of an entry's counts and state. -/
def afterTransition (c : EntryConfig) (m : MeterEntry) : Option Transition → MeterEntry
  | none => steppedCounts c m
  | some t => { m with state := stateAfter t, overCount := 0, starveCount := 0, clearCount := 0 }

/-- R158: the rescue list after a transition. -/
def rescueAfter (e : EntryIx) (l : List EntryIx) : Option Transition → List EntryIx
  | some .starvedDeclared => l ++ [e]
  | some .starvedCleared => l.filter (· != e)
  | some .overDeclared => l
  | some .overCleared => l
  | none => l

/-- R155: the event of a transition, and the ALARM that the declarations are to the Change List Unit. The ALARM comes
after the Meter Unit's posts, so that an ACTION_MISSED it gives rise to is queued last of the evaluation's events, where
R151, R155 and R189 would let it be queued before them or between them (assumption 4, DESIGN CHOICE). -/
def announce (e : EntryIx) (measured : Nat) (t : Option Transition) (s : State) : State :=
  match t with
  | none => s
  | some .overDeclared => trigger .alarm (postEvent .overDeclared (some e) (some measured) s)
  | some .overCleared => postEvent .overCleared (some e) (some measured) s
  | some .starvedDeclared => trigger .alarm (postEvent .starvedDeclared (some e) (some measured) s)
  | some .starvedCleared => postEvent .starvedCleared (some e) (some measured) s

/-- R151 to R156: the evaluation of one entry, as one act: limits, crossing, persistence counts and transition, the
events in that order, and the record EVALUATED. Where an ACTION_MISSED stands among these events is `announce`'s choice
(assumption 4). -/
def evaluateEntry (e : EntryIx) (s : State) : State :=
  let c := s.rmu.entries[e]
  let m := s.mu.entries[e]
  let t := transitionOf s.mu c m
  let judged := s.onMu fun u =>
    { u with
      entries := u.entries.set e
        { afterTransition c m t with lastSign := windowSign c m.closing,
                                     closing := { m.closing with evaluation := .evaluated } },
      rescueList := rescueAfter e u.rescueList t }
  announce e m.closing.measured t (postCrossing e c m.closing m.lastSign (postLimits e c m.closing judged))

/-- R151: at this entry the pass has something to evaluate. -/
def awaitsEvaluation (s : State) (e : EntryIx) : Bool :=
  s.rmu.entries[e].enabled && s.mu.entries[e].closing.evaluation == .pending

/-- R151: the next entry at or after an index that the pass evaluates. -/
def nextToEvaluate (s : State) (i : Nat) : Option EntryIx :=
  (List.finRange 48).find? fun e => decide (i ≤ e.val) && awaitsEvaluation s e

/-- R148, R151: the evaluation pass ends, and a close held pending is taken in the same act. -/
def endEvaluation (s : State) : State :=
  match s.mu.heldClose with
  | none => s.onMu fun m => { m with pass := none }
  | some further => closeWindow further s

/-- R151: one step of the evaluation pass: the next entry that awaits evaluation is evaluated, and, once every entry
through 47 has been dealt with, the pass ends. -/
def evaluationStep (s : State) : State :=
  match s.mu.pass with
  | none => s
  | some i =>
    match nextToEvaluate s i with
    | none => endEvaluation s
    | some e =>
      let t := evaluateEntry e s
      if (nextToEvaluate t (e.val + 1)).isSome then t.onMu fun m => { m with pass := some (e.val + 1) }
      else endEvaluation t

/-- ENTRY_EVALUATION. -/
def execEntryEvaluation (s : State) : Host.Outcome State Fault Refusal := whilePowered evaluationStep s

end Sys2Proof.Machine
end

