-- ==== Sys2Proof/Machine/Credit.lean ====
section
/-! DEFINITION. The Credit Engine (chapter 6): the arithmetic of a refill, the snapshot, epoch expiries, landings and
the pass's end; and the PACE pin's edges and pulses (section 9.5). -/

namespace Sys2Proof.Machine

/-! ### The arithmetic of a pass (R107 to R111) -/

/-- R112: the lend ratio, out of 256. -/
def lendRatioOf : LendRatio → Nat
  | .none => 0
  | .third => 85
  | .twoThirds => 171
  | .all => 256

/-- R107: the refill scale of a requester state, out of 256. -/
def scaleOf (n : Snapshot) : ReqState → Nat
  | .normal => 256
  | .over => n.penaltyScale
  | .starved => n.rescueScale
  | .disabled => 256

/-- R108: the floor share F. -/
def floorShare (n : Snapshot) (r : SnapshotRow) : Nat :=
  match r.refillSource with
  | .formula => r.floor * scaleOf n r.state / 256
  | .pinned => r.pinnedRefill

/-- R108: ΣF, over the whole enabled set. -/
def floorSum (n : Snapshot) : Nat := (n.rows.map (floorShare n)).sum

/-- R109: the spare. -/
def spareOf (n : Snapshot) : Nat := (n.portEpochBytes - floorSum n) + n.lent

/-- R110: an entry that takes part in the sharing of the spare. -/
def sharesSpare (r : SnapshotRow) : Bool := r.backlogged && r.refillSource == .formula

/-- R110: W, the sum of weights among entries that receive spare. -/
def weightSum (n : Snapshot) : Nat := ((n.rows.filter sharesSpare).map (·.weight)).sum

/-- R110: the spare share E. -/
def spareShare (n : Snapshot) (r : SnapshotRow) : Nat :=
  if sharesSpare r ∧ weightSum n ≠ 0 then spareOf n * r.weight / weightSum n else 0

/-- R111: the refill. -/
def refillOf (n : Snapshot) (r : SnapshotRow) : Nat :=
  match r.refillSource with
  | .formula => min (floorShare n r + spareShare n r) r.ceiling
  | .pinned => r.pinnedRefill

/-! ### The snapshot and the expiry (R101, R103, R106) -/

/-- R106: the backlog set: enabled entries with a held transaction. -/
def backlogged (s : State) (e : EntryIx) : Bool :=
  s.rmu.entries[e].enabled && s.hs.held.any (·.entry == e)

/-- R106: what the snapshot takes of one entry. -/
def snapshotRow (s : State) (e : EntryIx) : SnapshotRow :=
  let c := s.rmu.entries[e]
  { entry := e, floor := c.floor, ceiling := c.ceiling, weight := c.weight, lendRatio := c.lendRatio,
    refillSource := c.refillSource, pinnedRefill := c.pinnedRefill, state := s.mu.entries[e].state,
    backlogged := backlogged s e }

/-- R106: the snapshot of a pass. -/
def takeSnapshot (s : State) : Snapshot :=
  { rows := ((List.finRange 48).filter fun e => s.rmu.entries[e].enabled).map (snapshotRow s),
    lent := s.ce.lent, portEpochBytes := s.ce.portEpochBytes, penaltyScale := s.ce.penaltyScale,
    rescueScale := s.ce.rescueScale }

/-- R106, R109: a taken expiry begins a pass with its snapshot; the lending accumulator is set to 0, the lent pool is
consumed and OVERCOMMIT set or cleared. -/
def beginPass (s : State) : State :=
  let n := takeSnapshot s
  s.onCe fun c =>
    { c with pass := some ⟨n, 0, []⟩, lent := 0, accumulator := 0,
             overcommit := decide (n.portEpochBytes < floorSum n) }

/-- R102: the epoch counter advances, from 65535 to 0. -/
def advanceEpoch (s : State) : State := s.onCe fun c => { c with epochCounter := c.epochCounter + 1 }

/-- R103: an epoch expiry: taken if no pass runs, and reported to the Meter Unit; missed otherwise. Taken or missed,
it is handed to the Grant Wheel and to the Change List Unit. -/
def epochExpiry (s : State) : State :=
  let advanced := advanceEpoch s
  let taken :=
    match s.ce.pass with
    | none => meterExpiry (backlogged s) (beginPass advanced)
    | some _ => postEvent .epochOverrun none none advanced
  countDown (pacedExpiry taken)

/-- R101: the effective epoch source. -/
def effectiveSource (s : State) : EpochSource :=
  match s.mp.paceDirection with
  | .output => .timer
  | .input => s.ce.epochSource

/-- R100: the timer begins its next interval with the epoch period as it stands. -/
def nextInterval (s : State) : State := s.onCe fun c => { c with interval := c.epochPeriod }

/-- R100, R170: the epoch timer expires: an epoch expiry when the effective source is TIMER, and a pulse on PACE,
whose rising edge is a trigger, when the pin is an output. -/
def timerExpiry (s : State) : State :=
  let began := nextInterval s
  let expired :=
    match effectiveSource s with
    | .timer => epochExpiry began
    | .pace => began
  match s.mp.paceDirection with
  | .output => trigger .pace (expired.onMp fun m => { m with pulse := true })
  | .input => expired

/-- EPOCH_TIMER_EXPIRY. -/
def execEpochTimerExpiry (s : State) : Host.Outcome State Fault Refusal := whilePowered timerExpiry s

/-- R170: the pulse ends and the pin is driven low again. -/
def pulseEnds (s : State) : State := s.onMp fun m => { m with pulse := false }

/-- PACE_PULSE_END. -/
def execPacePulseEnd (s : State) : Host.Outcome State Fault Refusal := whilePowered pulseEnds s

/-- R101, R170: a rising edge of the pin, which reaches the blocks only while the pin is an input. -/
def paceEdge (s : State) : State :=
  match s.mp.paceDirection with
  | .output => s
  | .input =>
    trigger .pace
      (match effectiveSource s with
       | .pace => epochExpiry s
       | .timer => s)

/-- PACE_EDGE. -/
def execPaceEdge (s : State) : Host.Outcome State Fault Refusal := whilePowered paceEdge s

/-! ### Landings and the pass's end (R112, R113) -/

/-- R112: the excess of a balance over the burst cap. -/
def excessOf (n : Int) (burst : Nat) : Nat := (n - (burst : Int)).toNat

/-- R112: a refill lands at its entry's credit record. One whose entry is disabled, or was enabled after the pass's
snapshot (R32, R117, assumption 36), is lost. -/
def landRow (p : RefillPass) (r : SnapshotRow) (s : State) : State :=
  let refill := refillOf p.snapshot r
  let record := s.ce.records[r.entry]
  let burst := s.rmu.entries[r.entry].burst
  let n := record.balance + (refill : Int)
  if s.rmu.entries[r.entry].enabled ∧ r.entry ∉ p.enabledSince then
    s.onCe fun c =>
      { c with
        records := c.records.set r.entry
          { balance := min n (burst : Int),
            formulaRefill := if r.refillSource = .formula then refill else record.formulaRefill },
        accumulator := c.accumulator + excessOf n burst * lendRatioOf r.lendRatio / 256,
        pass := some { p with next := r.entry.val + 1 } }
  else s.onCe fun c => { c with pass := some { p with next := r.entry.val + 1 } }

/-- R112: the next entry of the enabled set that the pass has still to deal with. -/
def nextToLand (p : RefillPass) : Option SnapshotRow := p.snapshot.rows.find? fun r => decide (p.next ≤ r.entry.val)

/-- R112: one landing. -/
def refillLanding (s : State) : State :=
  match s.ce.pass with
  | none => s
  | some p =>
    match nextToLand p with
    | none => s
    | some r => landRow p r s

/-- REFILL_LANDING. -/
def execRefillLanding (s : State) : Host.Outcome State Fault Refusal := whilePowered refillLanding s

/-- R113: the pass ends, once it has dealt with entry 47, and the lent pool becomes the accumulator's total, capped. The
accumulator keeps it until the next snapshot (assumption 48, DESIGN CHOICE). -/
def passEnds (s : State) : State :=
  match s.ce.pass with
  | none => s
  | some p =>
    match nextToLand p with
    | some _ => s
    | none => wake (s.onCe fun c => { c with lent := min c.accumulator c.portEpochBytes, pass := none })

/-- REFILL_PASS_END. -/
def execRefillPassEnd (s : State) : Host.Outcome State Fault Refusal := whilePowered passEnds s

end Sys2Proof.Machine
end

