-- ==== Sys2Proof/Machine/Operands.lean ====
section
/-! DEFINITION. What the bytes of a management frame name (section 11.2): the codes of named values, the clamps of
numbers, and the field maps of the seven tables. -/

namespace Sys2Proof.Machine

/-! ### Codes of named values -/

def yesNoCode (b : Bool) : Nat := if b then 1 else 0

def yesNoOf : Nat → Option Bool
  | 0 => some false
  | 1 => some true
  | _ => none

def classCode : SvcClass → Nat
  | .prime => 0
  | .record => 1
  | .bulk => 2
  | .scavenge => 3

def classOf : Nat → Option SvcClass
  | 0 => some .prime
  | 1 => some .record
  | 2 => some .bulk
  | 3 => some .scavenge
  | _ => none

/-- A lend ratio's code is its ratio. -/
def lendRatioOfCode (n : Nat) : Option LendRatio :=
  if n = 0 then some .none
  else if n = 85 then some .third
  else if n = 171 then some .twoThirds
  else if n = 256 then some .all
  else none

def refillSourceCode : RefillSource → Nat
  | .formula => 0
  | .pinned => 1

def refillSourceOf : Nat → Option RefillSource
  | 0 => some .formula
  | 1 => some .pinned
  | _ => none

def policyCode : PressurePolicy → Nat
  | .defer => 0
  | .stall => 1

def policyOf : Nat → Option PressurePolicy
  | 0 => some .defer
  | 1 => some .stall
  | _ => none

def crossingCode : CrossingMode → Nat
  | .off => 0
  | .falling => 1
  | .rising => 2
  | .both => 3

def crossingOf : Nat → Option CrossingMode
  | 0 => some .off
  | 1 => some .falling
  | 2 => some .rising
  | 3 => some .both
  | _ => none

def reqStateCode : ReqState → Nat
  | .disabled => 0
  | .normal => 1
  | .over => 2
  | .starved => 3

def splitCode : LaneSplit → Nat
  | .shared => 0
  | .splitLocked => 1
  | .splitFree => 2

def splitOf : Nat → Option LaneSplit
  | 0 => some .shared
  | 1 => some .splitLocked
  | 2 => some .splitFree
  | _ => none

def pacingCode : Pacing → Nat
  | .continuous => 0
  | .paced => 1

def pacingOf : Nat → Option Pacing
  | 0 => some .continuous
  | 1 => some .paced
  | _ => none

def laneStateCode : LaneState → Nat
  | .idle => 0
  | .walking => 1
  | .waitingLink => 2
  | .stopped => 3

def epochSourceCode : EpochSource → Nat
  | .timer => 0
  | .pace => 1

def epochSourceOf : Nat → Option EpochSource
  | 0 => some .timer
  | 1 => some .pace
  | _ => none

def directionCode : PaceDirection → Nat
  | .input => 0
  | .output => 1

def directionOf : Nat → Option PaceDirection
  | 0 => some .input
  | 1 => some .output
  | _ => none

def triggerCode : TriggerSource → Nat
  | .pace => 0
  | .alarm => 1
  | .countdown => 2
  | .go => 3

def triggerOf : Nat → Option TriggerSource
  | 0 => some .pace
  | 1 => some .alarm
  | 2 => some .countdown
  | 3 => some .go
  | _ => none

def evaluationCode : Evaluation → Nat
  | .evaluated => 0
  | .pending => 1

def signCode : CrossSign → Nat
  | .unknown => 0
  | .above => 1
  | .below => 2

/-- The code of a mode in an answer and in the live status (section 11.2). -/
def modeCode : Mode → Nat
  | .bypass => 0
  | .regulate => 1
  | .halted => 2

def runModeCode : RunMode → Nat
  | .bypass => 0
  | .regulate => 1

/-- IDLE 0, RUNNING 1, of a pass activity or the change-list activity, as live status bit 6 has it (assumption 6). -/
def activityCode (running : Bool) : Nat := if running then 1 else 0

/-! ### Clamps -/

/-- A number outside lo..hi is stored as the nearer end. -/
def clampNumber (lo hi v : Nat) : Nat := max lo (min v hi)

/-- R30: a start mark is raised to the next of 64, 128, 256, 512, or lowered to 512. -/
def clampStartMark (v : Nat) : Nat :=
  if v ≤ 64 then 64 else if v ≤ 128 then 128 else if v ≤ 256 then 256 else 512

/-- R186: a number was stored as sent, or clamped. -/
def storedCode (stored sent : Nat) : AnswerCode := if stored = sent then .done else .clamped

/-! ### The fields of the tables -/

/-- REQUESTER, configuration fields 00h to 14h. -/
inductive EntryField where
  | enabled | key | mask | cls | baseLow | baseHigh | limitLow | limitHigh | floor | ceiling | weight | burst
  | lendRatio | refillSource | pinnedRefill | quota | flightCap | meterLow | meterHigh | offset | crossing
deriving DecidableEq, Repr

/-- REQUESTER, runtime fields 20h to 24h. -/
inductive EntryRuntime where
  | balance | state | heldCount | flightCount | effectiveRefill
deriving DecidableEq, Repr

/-- CLASS fields. -/
inductive ClassField where
  | cutThrough | startMark | policy
deriving DecidableEq, Repr

/-- WHEEL, a slot's fields. -/
inductive SlotField where
  | cls | enabled
deriving DecidableEq, Repr

/-- WHEEL index 16, runtime fields. -/
inductive WheelRuntime where
  | appliedSplit | appliedPacing
  | lane (l : LaneName)
  | readPointer (c : SvcClass)
  | writePointer (c : SvcClass)
deriving DecidableEq, Repr

/-- GLOBAL fields 00h to 12h. -/
inductive GlobalField where
  | epochPeriod | epochSource | portEpochBytes | penaltyScale | rescueScale | readFactor | writeFactor
  | responseTimeout | windowEpochs | overDeclare | overClear | starveDeclare | starveClear
  | mark (m : PressureMark)
  | paceDirection | eventMask
deriving DecidableEq, Repr

/-- GLOBAL runtime fields 20h to 24h. -/
inductive GlobalRuntime where
  | epochCounter | lentPool | freeDescriptors | freeCells | popped
deriving DecidableEq, Repr

/-- CHANGE_LIST, an entry's fields. -/
inductive ListField where
  | kind | target | value
deriving DecidableEq, Repr

/-- CHANGE_LIST index 32, settings and runtime fields. -/
inductive TriggerField where
  | source | oneShot | countdownLength
deriving DecidableEq, Repr

inductive TriggerRuntime where
  | position | remaining
deriving DecidableEq, Repr

/-- METER, an entry's fields. -/
inductive MeterField where
  | released | measured | backlog | deferrals | windowEpochs | evaluation | fresh
  | overCount | starveCount | clearCount | lastSign
deriving DecidableEq, Repr

/-- METER index 48. -/
inductive MeterGlobal where
  | rescueLength | windowCount | activity
  | rescuePosition (n : Nat)
deriving DecidableEq, Repr

/-- COUNTERS fields. -/
inductive CounterField where
  | releasedLow | releasedHigh | deferrals | refusals | timeouts
deriving DecidableEq, Repr

/-- Every field the maps of section 11.2 name. -/
inductive Field where
  | entry (e : EntryIx) (f : EntryField)
  | entryRuntime (e : EntryIx) (f : EntryRuntime)
  | cls (c : SvcClass) (f : ClassField)
  | slot (i : Fin 16) (f : SlotField)
  | wheel (f : WheelSetting)
  | wheelRuntime (f : WheelRuntime)
  | global (f : GlobalField)
  | globalRuntime (f : GlobalRuntime)
  | list (i : Fin 32) (f : ListField)
  | trigger (f : TriggerField)
  | triggerRuntime (f : TriggerRuntime)
  | meter (e : EntryIx) (f : MeterField)
  | meterGlobal (f : MeterGlobal)
  | counter (e : EntryIx) (f : CounterField)
deriving DecidableEq, Repr

/-! ### The maps -/

/-- A number below n, if it is one. -/
def finOf (n v : Nat) : Option (Fin n) := if h : v < n then some ⟨v, h⟩ else none

def entryFieldAt : Nat → Option EntryField
  | 0x00 => some .enabled
  | 0x01 => some .key
  | 0x02 => some .mask
  | 0x03 => some .cls
  | 0x04 => some .baseLow
  | 0x05 => some .baseHigh
  | 0x06 => some .limitLow
  | 0x07 => some .limitHigh
  | 0x08 => some .floor
  | 0x09 => some .ceiling
  | 0x0A => some .weight
  | 0x0B => some .burst
  | 0x0C => some .lendRatio
  | 0x0D => some .refillSource
  | 0x0E => some .pinnedRefill
  | 0x0F => some .quota
  | 0x10 => some .flightCap
  | 0x11 => some .meterLow
  | 0x12 => some .meterHigh
  | 0x13 => some .offset
  | 0x14 => some .crossing
  | _ => none

def entryRuntimeAt : Nat → Option EntryRuntime
  | 0x20 => some .balance
  | 0x21 => some .state
  | 0x22 => some .heldCount
  | 0x23 => some .flightCount
  | 0x24 => some .effectiveRefill
  | _ => none

def requesterFieldAt (e : EntryIx) (f : Nat) : Option Field :=
  match entryFieldAt f with
  | some x => some (.entry e x)
  | none => (entryRuntimeAt f).map (.entryRuntime e)

def classFieldAt : Nat → Option ClassField
  | 0x00 => some .cutThrough
  | 0x01 => some .startMark
  | 0x02 => some .policy
  | _ => none

def slotFieldAt : Nat → Option SlotField
  | 0x00 => some .cls
  | 0x01 => some .enabled
  | _ => none

def wheelFieldAt : Nat → Option Field
  | 0x00 => some (.wheel .split)
  | 0x01 => some (.wheel .pacing)
  | 0x10 => some (.wheelRuntime .appliedSplit)
  | 0x11 => some (.wheelRuntime .appliedPacing)
  | 0x12 => some (.wheelRuntime (.lane .read))
  | 0x13 => some (.wheelRuntime (.lane .write))
  | 0x14 => some (.wheelRuntime (.lane .shared))
  | 0x15 => some (.wheelRuntime (.lane .drain))
  | 0x18 => some (.wheelRuntime (.readPointer .prime))
  | 0x19 => some (.wheelRuntime (.readPointer .record))
  | 0x1A => some (.wheelRuntime (.readPointer .bulk))
  | 0x1B => some (.wheelRuntime (.readPointer .scavenge))
  | 0x1C => some (.wheelRuntime (.writePointer .prime))
  | 0x1D => some (.wheelRuntime (.writePointer .record))
  | 0x1E => some (.wheelRuntime (.writePointer .bulk))
  | 0x1F => some (.wheelRuntime (.writePointer .scavenge))
  | _ => none

def globalFieldAt : Nat → Option Field
  | 0x00 => some (.global .epochPeriod)
  | 0x01 => some (.global .epochSource)
  | 0x02 => some (.global .portEpochBytes)
  | 0x03 => some (.global .penaltyScale)
  | 0x04 => some (.global .rescueScale)
  | 0x05 => some (.global .readFactor)
  | 0x06 => some (.global .writeFactor)
  | 0x07 => some (.global .responseTimeout)
  | 0x08 => some (.global .windowEpochs)
  | 0x09 => some (.global .overDeclare)
  | 0x0A => some (.global .overClear)
  | 0x0B => some (.global .starveDeclare)
  | 0x0C => some (.global .starveClear)
  | 0x0D => some (.global (.mark .descriptorLow))
  | 0x0E => some (.global (.mark .descriptorHigh))
  | 0x0F => some (.global (.mark .cellLow))
  | 0x10 => some (.global (.mark .cellHigh))
  | 0x11 => some (.global .paceDirection)
  | 0x12 => some (.global .eventMask)
  | 0x20 => some (.globalRuntime .epochCounter)
  | 0x21 => some (.globalRuntime .lentPool)
  | 0x22 => some (.globalRuntime .freeDescriptors)
  | 0x23 => some (.globalRuntime .freeCells)
  | 0x24 => some (.globalRuntime .popped)
  | _ => none

def listFieldAt : Nat → Option ListField
  | 0x00 => some .kind
  | 0x01 => some .target
  | 0x02 => some .value
  | _ => none

def triggerFieldAt : Nat → Option Field
  | 0x00 => some (.trigger .source)
  | 0x01 => some (.trigger .oneShot)
  | 0x02 => some (.trigger .countdownLength)
  | 0x10 => some (.triggerRuntime .position)
  | 0x11 => some (.triggerRuntime .remaining)
  | _ => none

def meterFieldAt : Nat → Option MeterField
  | 0x00 => some .released
  | 0x01 => some .measured
  | 0x02 => some .backlog
  | 0x03 => some .deferrals
  | 0x04 => some .windowEpochs
  | 0x05 => some .evaluation
  | 0x06 => some .fresh
  | 0x07 => some .overCount
  | 0x08 => some .starveCount
  | 0x09 => some .clearCount
  | 0x0A => some .lastSign
  | _ => none

def meterGlobalAt (f : Nat) : Option MeterGlobal :=
  if f = 0x00 then some .rescueLength
  else if f = 0x01 then some .windowCount
  else if f = 0x02 then some .activity
  else if 0x10 ≤ f ∧ f ≤ 0x3F then some (.rescuePosition (f - 0x10))
  else none

def counterFieldAt : Nat → Option CounterField
  | 0x00 => some .releasedLow
  | 0x01 => some .releasedHigh
  | 0x02 => some .deferrals
  | 0x03 => some .refusals
  | 0x04 => some .timeouts
  | _ => none

/-- Section 11.2, R186: the field that a table code, an index and a field number name, if they name one. -/
def fieldAt (table index field : Nat) : Option Field :=
  match table with
  | 1 => (finOf 48 index).bind fun e => requesterFieldAt e field
  | 2 => (classOf index).bind fun c => (classFieldAt field).map (.cls c)
  | 3 =>
    if index = 16 then wheelFieldAt field
    else (finOf 16 index).bind fun i => (slotFieldAt field).map (.slot i)
  | 4 => if index = 0 then globalFieldAt field else none
  | 5 =>
    if index = 32 then triggerFieldAt field
    else (finOf 32 index).bind fun i => (listFieldAt field).map (.list i)
  | 6 =>
    if index = 48 then (meterGlobalAt field).map .meterGlobal
    else (finOf 48 index).bind fun e => (meterFieldAt field).map (.meter e)
  | 7 => (finOf 48 index).bind fun e => (counterFieldAt field).map (.counter e)
  | _ => none

end Sys2Proof.Machine
end

