-- ==== Sys2Proof/Machine/Flags.lean ====
section
/-! DEFINITION. The status the part shows (sections 11.4 and 11.5): the live status and its bits, the ALERT line, the
PACE level, the record head, and the answer of a frame. -/

namespace Sys2Proof.Machine

/-- R191: ALERT is asserted while the event queue holds a record, and never while PORn is low. -/
def alert (s : State) : Bool := s.powered && !s.mp.events.isEmpty

/-- R171: the PACE level read: what the part drives when the pin is an output, the level at the pin otherwise. -/
def paceLevel (pin : Bool) (s : State) : Bool :=
  match s.mp.paceDirection with
  | .output => s.mp.pulse
  | .input => pin

/-- A flag in its bit of the live status. -/
def statusBit (n : Nat) (b : Bool) : Nat := if b then 2 ^ n else 0

/-- Section 11.2: the live status. -/
def liveStatus (pin : Bool) (s : State) : Nat :=
  modeCode s.mp.mode
    + statusBit 2 (s.mp.remembered == .regulate)
    + statusBit 3 s.mp.ready
    + statusBit 4 s.hs.pressureOn
    + statusBit 5 s.ce.overcommit
    + statusBit 6 s.clu.run.isSome
    + statusBit 7 s.clu.armed
    + statusBit 8 s.up.linkUp
    + statusBit 9 s.dp.linkUp
    + statusBit 10 (paceLevel pin s)
    + statusBit 11 s.mp.eventLost
    + s.mp.events.length * 2 ^ 16

/-- Section 11.2: the record head: kind code, entry index (FFh when absent) and epoch stamp. -/
def recordHead (r : EventRecord) : Nat :=
  eventCode r.kind * 2 ^ 24 + (match r.entry with
    | some e => e.val
    | none => 0xFF) * 2 ^ 16 + r.stamp.toNat

/-! ### The answer's five bytes (R184, section 11.2) -/

/-- Section 11.2: the answer codes. -/
def answerCodeByte : AnswerCode → Byte
  | .done => 0x00
  | .clamped => 0x01
  | .refusedState => 0x02
  | .badTarget => 0x03

/-- Section 11.2: the answer code a byte carries, if it carries one. -/
def answerCodeOf (b : Byte) : Option AnswerCode :=
  if b = 0x00 then some .done
  else if b = 0x01 then some .clamped
  else if b = 0x02 then some .refusedState
  else if b = 0x03 then some .badTarget
  else none

/-- Section 11.2: the five bytes of an answer as one number, byte 0 in the most significant place. -/
def answerBits (a : Answer) : BitVec 40 := answerCodeByte a.code ++ a.value

/-- The answer that five bytes carry, if byte 0 is an answer code. -/
def answerOfBits (w : BitVec 40) : Option Answer :=
  (answerCodeOf (w.extractLsb' 32 8)).map fun c => ⟨c, w.extractLsb' 0 32⟩

/-- R184: what the controller has of an answer when MSEL rises after n of its bits have been shifted out, most
significant bit first. The rest is lost, and no state of the part keeps it to be sent again. -/
def shiftedOut (n : Nat) (a : Answer) : List Bool := ((List.range 40).map fun k => (answerBits a).getMsbD k).take n

/-- The answer of the frame just taken. -/
def answer (code : AnswerCode) (value : Word) (s : State) : State :=
  s.onMp fun m => { m with answer := some ⟨code, value⟩ }

/-- An answer whose value is a number. -/
def answerNat (code : AnswerCode) (value : Nat) (s : State) : State := answer code (BitVec.ofNat 32 value) s

/-- An answer whose value the manual does not state: the next free value (assumption 1). -/
def answerFree (code : AnswerCode) (s : State) : State :=
  { answer code (Config.freeValue s.freeUsed) s with freeUsed := s.freeUsed + 1 }

/-- R186: the event mask keeps bits 1 to 20 of a written value. -/
def maskBits : Word := 0x1FFFFE

end Sys2Proof.Machine
end

