-- ==== Sys2Proof/Machine/Fields.lean ====
section
/-! DEFINITION. Reading and writing the fields of section 11.2 at their owners, and the writes that act beyond the
field: enabling, disabling, the burst cap, PORT_EPOCH_BYTES, the pressure marks, the PACE direction, the trigger
source, the wheel settings. -/

namespace Sys2Proof.Machine

/-! ### Reading (R24, R25, R119, R186) -/

def entryValue (c : EntryConfig) : EntryField → Nat
  | .enabled => yesNoCode c.enabled
  | .key => c.key.toNat
  | .mask => c.mask.toNat
  | .cls => classCode c.cls
  | .baseLow => c.windowBase.toNat % 2 ^ 32
  | .baseHigh => c.windowBase.toNat / 2 ^ 32
  | .limitLow => c.windowLimit.toNat % 2 ^ 32
  | .limitHigh => c.windowLimit.toNat / 2 ^ 32
  | .floor => c.floor
  | .ceiling => c.ceiling
  | .weight => c.weight
  | .burst => c.burst
  | .lendRatio => lendRatioOf c.lendRatio
  | .refillSource => refillSourceCode c.refillSource
  | .pinnedRefill => c.pinnedRefill
  | .quota => c.quota
  | .flightCap => c.flightCap
  | .meterLow => c.lowLimit
  | .meterHigh => c.highLimit
  | .offset => c.offset
  | .crossing => crossingCode c.crossing

/-- R25: the effective refill read-back. -/
def effectiveRefill (s : State) (e : EntryIx) : Nat :=
  match s.rmu.entries[e].refillSource with
  | .pinned => s.rmu.entries[e].pinnedRefill
  | .formula => s.ce.records[e].formulaRefill

/-- R24: a runtime field; a balance is carried in two's complement. -/
def runtimeValue (s : State) (e : EntryIx) : EntryRuntime → Word
  | .balance => BitVec.ofInt 32 s.ce.records[e].balance
  | .state => BitVec.ofNat 32 (reqStateCode s.mu.entries[e].state)
  | .heldCount => BitVec.ofNat 32 (heldCount s e)
  | .flightCount => BitVec.ofNat 32 (flightCount s e)
  | .effectiveRefill => BitVec.ofNat 32 (effectiveRefill s e)

def classValue (c : ClassRecord) : ClassField → Nat
  | .cutThrough => yesNoCode c.cutThrough
  | .startMark => c.startMark
  | .policy => policyCode c.policy

def slotValue (x : Slot) : SlotField → Nat
  | .cls => classCode x.cls
  | .enabled => yesNoCode x.enabled

/-- R77: the stored values. -/
def wheelValue (g : GrantWheel) : WheelSetting → Nat
  | .split => splitCode g.storedSplit
  | .pacing => pacingCode g.storedPacing

def wheelRuntimeValue (s : State) : WheelRuntime → Nat
  | .appliedSplit => splitCode s.gw.appliedSplit
  | .appliedPacing => pacingCode s.gw.appliedPacing
  | .lane l => laneStateCode (laneState s l)
  | .readPointer c => (s.gw.readPointers.get c).val
  | .writePointer c => (s.gw.writePointers.get c).val

def markValue (h : HoldStore) : PressureMark → Nat
  | .descriptorLow => h.descriptorLow
  | .descriptorHigh => h.descriptorHigh
  | .cellLow => h.cellLow
  | .cellHigh => h.cellHigh

def globalValue (s : State) : GlobalField → Nat
  | .epochPeriod => s.ce.epochPeriod
  | .epochSource => epochSourceCode s.ce.epochSource
  | .portEpochBytes => s.ce.portEpochBytes
  | .penaltyScale => s.ce.penaltyScale
  | .rescueScale => s.ce.rescueScale
  | .readFactor => s.ce.readFactor
  | .writeFactor => s.ce.writeFactor
  | .responseTimeout => s.fu.responseTimeout
  | .windowEpochs => s.mu.windowLength
  | .overDeclare => s.mu.overDeclare
  | .overClear => s.mu.overClear
  | .starveDeclare => s.mu.starveDeclare
  | .starveClear => s.mu.starveClear
  | .mark m => markValue s.hs m
  | .paceDirection => directionCode s.mp.paceDirection
  | .eventMask => s.mp.eventMask.toNat

def globalRuntimeValue (s : State) : GlobalRuntime → Nat
  | .epochCounter => s.ce.epochCounter.toNat
  | .lentPool => s.ce.lent
  | .freeDescriptors => freeDescriptors s
  | .freeCells => freeCells s
  | .popped => s.mp.popped.toNat

def listValue (x : ListEntry) : ListField → Nat
  | .kind => x.kind.toNat
  | .target => x.target.toNat
  | .value => x.value.toNat

def triggerValue (c : ChangeList) : TriggerField → Nat
  | .source => triggerCode c.source
  | .oneShot => yesNoCode c.oneShot
  | .countdownLength => c.countdownLength

def meterValue (m : MeterEntry) : MeterField → Nat
  | .released => m.closing.released
  | .measured => m.closing.measured
  | .backlog => yesNoCode m.closing.backlog
  | .deferrals => m.closing.deferrals
  | .windowEpochs => m.closing.windowEpochs
  | .evaluation => evaluationCode m.closing.evaluation
  | .fresh => yesNoCode m.closing.fresh
  | .overCount => m.overCount
  | .starveCount => m.starveCount
  | .clearCount => m.clearCount
  | .lastSign => signCode m.lastSign

def counterValue (c : Counters) : CounterField → Nat
  | .releasedLow => c.released % 2 ^ 32
  | .releasedHigh => c.released / 2 ^ 32
  | .deferrals => c.deferrals
  | .refusals => c.refusals
  | .timeouts => c.timeouts

/-- R158: what the METER table's index 48 reads; a position past the rescue list's end reads as a value the manual
does not state. -/
def meterGlobalValue (m : MeterUnit) : MeterGlobal → Option Nat
  | .rescueLength => some m.rescueList.length
  | .windowCount => some m.windowCount
  | .activity => some (activityCode m.pass.isSome)
  | .rescuePosition n => (m.rescueList[n]?).map (·.val)

/-- R178: the remaining count reads 0 while the countdown is stopped. The run position while no run is under way is
a value the manual does not state. -/
def triggerRuntimeValue (c : ChangeList) : TriggerRuntime → Option Nat
  | .position => c.run.map (·.val)
  | .remaining => some (c.countdown.getD 0)

/-- R186: a field as its owner holds it; none where the manual states no value. -/
def fieldValue (s : State) : Field → Option Word
  | .entry e f => some (BitVec.ofNat 32 (entryValue s.rmu.entries[e] f))
  | .entryRuntime e f => some (runtimeValue s e f)
  | .cls c f => some (BitVec.ofNat 32 (classValue (s.rmu.classes.get c) f))
  | .slot i f => some (BitVec.ofNat 32 (slotValue s.gw.slots[i] f))
  | .wheel f => some (BitVec.ofNat 32 (wheelValue s.gw f))
  | .wheelRuntime f => some (BitVec.ofNat 32 (wheelRuntimeValue s f))
  | .global f => some (BitVec.ofNat 32 (globalValue s f))
  | .globalRuntime f => some (BitVec.ofNat 32 (globalRuntimeValue s f))
  | .list i f => some (BitVec.ofNat 32 (listValue s.clu.list[i] f))
  | .trigger f => some (BitVec.ofNat 32 (triggerValue s.clu f))
  | .triggerRuntime f => (triggerRuntimeValue s.clu f).map (BitVec.ofNat 32)
  | .meter e f => some (BitVec.ofNat 32 (meterValue s.mu.entries[e] f))
  | .meterGlobal f => (meterGlobalValue s.mu f).map (BitVec.ofNat 32)
  | .counter e f => some (BitVec.ofNat 32 (counterValue s.fu.counters[e] f))

/-- A frame is answered with a field as it stands. -/
def answerField (code : AnswerCode) (f : Field) (s : State) : State :=
  match fieldValue s f with
  | some v => answer code v s
  | none => answerFree code s

/-! ### Enabling and disabling (R32, R33) -/

/-- R32, R151: the Meter Unit's part of an enable. The closing record is left as it is (R149), but an enable taken while
an evaluation pass runs sets its evaluation to EVALUATED. -/
def enableMeter (passRuns : Bool) (m : MeterEntry) : MeterEntry :=
  { m with state := .normal, released := 0, backlog := false, deferrals := 0, overCount := 0, starveCount := 0,
           clearCount := 0, lastSign := .unknown,
           closing := { m.closing with evaluation := if passRuns then .evaluated else m.closing.evaluation } }

/-- R32, R117: an enable taken while a refill pass runs is noted in the pass, which gives the entry nothing. -/
def noteEnable (e : EntryIx) (s : State) : State :=
  s.onCe fun c => { c with pass := c.pass.map fun p => { p with enabledSince := p.enabledSince.insert e } }

/-- R32: a write of yes enables a disabled entry; one already enabled is left as it is. -/
def enableEntry (e : EntryIx) (s : State) : State :=
  if s.rmu.entries[e].enabled then s
  else
    setMeter e (enableMeter s.mu.pass.isSome)
      (noteEnable e (setBalance e (s.rmu.entries[e].burst : Int) (setEntry e (fun c => { c with enabled := true }) s)))

/-- R33, R141: each held transaction answered DEFER by a disable steps the entry's deferral counter. -/
def countDeferrals (e : EntryIx) (n : Nat) : State → State :=
  setCounters e fun c => { c with deferrals := saturate (2 ^ 32 - 1) (c.deferrals + n) }

/-- R33: the Hold Store's and the Flight Unit's part of a disable. -/
def disableHeld (e : EntryIx) (s : State) : State :=
  countDeferrals e (heldCount s e)
    (answerDefer (s.hs.held.filter (·.entry == e)) (discardAll (·.entry == e) drainReservation s))

/-- R33, R158: the Meter Unit's part of a disable. -/
def disableMeter (e : EntryIx) (s : State) : State :=
  (setMeter e (fun m => { m with state := .disabled }) s).onMu fun m =>
    { m with rescueList := m.rescueList.filter (· != e) }

/-- R33, R91: a write of no disables an enabled entry; one already disabled is left as it is. A search that had named one
of its heads goes on after it. -/
def disableEntry (e : EntryIx) (s : State) : State :=
  if s.rmu.entries[e].enabled then
    setBalance e 0 (disableMeter e (disableHeld e
      (setEntry e (fun c => { c with enabled := false }) (namesGone (·.entry == e) s))))
  else s

/-! ### Writes with a behaviour of their own -/

/-- R116: a write of the burst cap; an enabled entry's balance above it comes down to it. -/
def writeBurst (e : EntryIx) (v : Nat) (s : State) : State :=
  let b := clampNumber 0 65535 v
  let stored := setEntry e (fun c => { c with burst := b }) s
  if s.rmu.entries[e].enabled then setBalance e (min s.ce.records[e].balance (b : Int)) stored else stored

/-- R105: a write of PORT_EPOCH_BYTES; a lent pool above it comes down to it. -/
def writePortEpochBytes (v : Nat) (s : State) : State :=
  s.onCe fun c => { c with portEpochBytes := clampNumber 1 262143 v, lent := min c.lent (clampNumber 1 262143 v) }

/-- R51: what a written mark is stored as: within its range, and a high mark not below its low mark. -/
def storedMark (h : HoldStore) (m : PressureMark) (v : Nat) : Nat :=
  match m with
  | .descriptorLow => min v 512
  | .descriptorHigh => max (min v 512) h.descriptorLow
  | .cellLow => min v 256
  | .cellHigh => max (min v 256) h.cellLow

/-- R51: a write of a mark is stored, and pressure is evaluated. -/
def writeMark (m : PressureMark) (v : Nat) (s : State) : State :=
  evaluatePressure <| s.onHs fun h =>
    match m with
    | .descriptorLow => { h with descriptorLow := storedMark h m v }
    | .descriptorHigh => { h with descriptorHigh := storedMark h m v }
    | .cellLow => { h with cellLow := storedMark h m v }
    | .cellHigh => { h with cellHigh := storedMark h m v }

/-- R170: a write of the PACE direction takes effect at the pin at once, ending any pulse. -/
def writeDirection (d : PaceDirection) (s : State) : State :=
  s.onMp fun m => { m with paceDirection := d, pulse := false }

/-- R177: a write of the trigger source stops a running countdown. -/
def writeTriggerSource (t : TriggerSource) (s : State) : State :=
  s.onClu fun c => { c with source := t, countdown := none }

/-- R186: the event mask stores bits 1 to 20. -/
def writeMask (v : Word) (s : State) : State := s.onMp fun m => { m with eventMask := v &&& maskBits }

/-! ### Writing a field at its owner -/

/-- A write that its owner refuses leaves the field as it is (R22, R30, R76). -/
def refuseWrite (s : State) : State × AnswerCode := (s, .badTarget)

/-- A write of a code: refused if it names no value. -/
def writeCode {α : Type} (o : Option α) (f : α → State → State) (s : State) : State × AnswerCode :=
  match o with
  | some a => (f a s, .done)
  | none => refuseWrite s

/-- R21: a number of an entry's configuration, clamped into lo..hi. -/
def writeEntryNumber (e : EntryIx) (lo hi v : Nat) (f : Nat → EntryConfig → EntryConfig) (s : State) :
    State × AnswerCode :=
  (setEntry e (f (clampNumber lo hi v)) s, storedCode (clampNumber lo hi v) v)

/-- R21: one part of a window field. -/
def withLow (x : BitVec 36) (v : Nat) : BitVec 36 := BitVec.ofNat 36 (x.toNat / 2 ^ 32 * 2 ^ 32 + v % 2 ^ 32)

def withHigh (x : BitVec 36) (v : Nat) : BitVec 36 := BitVec.ofNat 36 (v * 2 ^ 32 + x.toNat % 2 ^ 32)

/-- R21, R22, R32, R33, R116: a write to a configuration field of a requester entry. -/
def writeEntryField (e : EntryIx) (f : EntryField) (v : Nat) (s : State) : State × AnswerCode :=
  match f with
  | .enabled =>
    match yesNoOf v with
    | some true => (enableEntry e s, .done)
    | some false => if e.val = 0 then refuseWrite s else (disableEntry e s, .done)
    | none => refuseWrite s
  | .key => (setEntry e (fun c => { c with key := BitVec.ofNat 16 v }) s, storedCode (v % 2 ^ 16) v)
  | .mask => (setEntry e (fun c => { c with mask := BitVec.ofNat 16 v }) s, storedCode (v % 2 ^ 16) v)
  | .cls => writeCode (classOf v) (fun x => setEntry e fun c => { c with cls := x }) s
  | .baseLow => (setEntry e (fun c => { c with windowBase := withLow c.windowBase v }) s, .done)
  | .baseHigh => writeEntryNumber e 0 15 v (fun n c => { c with windowBase := withHigh c.windowBase n }) s
  | .limitLow => (setEntry e (fun c => { c with windowLimit := withLow c.windowLimit v }) s, .done)
  | .limitHigh => writeEntryNumber e 0 15 v (fun n c => { c with windowLimit := withHigh c.windowLimit n }) s
  | .floor => writeEntryNumber e 0 65535 v (fun n c => { c with floor := n }) s
  | .ceiling => writeEntryNumber e 0 65535 v (fun n c => { c with ceiling := n }) s
  | .weight => writeEntryNumber e 0 255 v (fun n c => { c with weight := n }) s
  | .burst => (writeBurst e v s, storedCode (clampNumber 0 65535 v) v)
  | .lendRatio => writeCode (lendRatioOfCode v) (fun x => setEntry e fun c => { c with lendRatio := x }) s
  | .refillSource => writeCode (refillSourceOf v) (fun x => setEntry e fun c => { c with refillSource := x }) s
  | .pinnedRefill => writeEntryNumber e 0 65535 v (fun n c => { c with pinnedRefill := n }) s
  | .quota => writeEntryNumber e 0 64 v (fun n c => { c with quota := n }) s
  | .flightCap => writeEntryNumber e 1 64 v (fun n c => { c with flightCap := n }) s
  | .meterLow => writeEntryNumber e 0 65535 v (fun n c => { c with lowLimit := n }) s
  | .meterHigh => writeEntryNumber e 0 65535 v (fun n c => { c with highLimit := n }) s
  | .offset => writeEntryNumber e 0 65535 v (fun n c => { c with offset := n }) s
  | .crossing => writeCode (crossingOf v) (fun x => setEntry e fun c => { c with crossing := x }) s

def setClassRecord (c : SvcClass) (f : ClassRecord → ClassRecord) (s : State) : State :=
  s.onRmu fun r => { r with classes := r.classes.set c (f (r.classes.get c)) }

/-- R30: a write to a class record. -/
def writeClassField (c : SvcClass) (f : ClassField) (v : Nat) (s : State) : State × AnswerCode :=
  match f with
  | .cutThrough => writeCode (yesNoOf v) (fun b => setClassRecord c fun r => { r with cutThrough := b }) s
  | .startMark =>
    (setClassRecord c (fun r => { r with startMark := clampStartMark v }) s, storedCode (clampStartMark v) v)
  | .policy => writeCode (policyOf v) (fun p => setClassRecord c fun r => { r with policy := p }) s

def setSlot (i : Fin 16) (f : Slot → Slot) (s : State) : State :=
  s.onGw fun g => { g with slots := g.slots.set i (f g.slots[i]) }

/-- R76: a write to a slot. -/
def writeSlotField (i : Fin 16) (f : SlotField) (v : Nat) (s : State) : State × AnswerCode :=
  match f with
  | .cls => writeCode (classOf v) (fun x => setSlot i fun t => { t with cls := x }) s
  | .enabled => writeCode (yesNoOf v) (fun b => setSlot i fun t => { t with enabled := b }) s

/-- R77: a write of a stored setting; a changeover follows if the lanes are between rounds. -/
def writeWheelSetting (f : WheelSetting) (v : Nat) (s : State) : State × AnswerCode :=
  match f with
  | .split => writeCode (splitOf v) (fun x t => changeoverIfDue (t.onGw fun g => { g with storedSplit := x })) s
  | .pacing => writeCode (pacingOf v) (fun x t => changeoverIfDue (t.onGw fun g => { g with storedPacing := x })) s

/-- A global number clamped into lo..hi. -/
def writeNumber (lo hi v : Nat) (f : Nat → State → State) (s : State) : State × AnswerCode :=
  (f (clampNumber lo hi v) s, storedCode (clampNumber lo hi v) v)

/-- R51, R100, R105, R126, R144, R170, R186: a write to a GLOBAL field. -/
def writeGlobalField (f : GlobalField) (v : Word) (s : State) : State × AnswerCode :=
  let n := v.toNat
  match f with
  | .epochPeriod => writeNumber 1 4095 n (fun x => State.onCe fun c => { c with epochPeriod := x }) s
  | .epochSource => writeCode (epochSourceOf n) (fun x => State.onCe fun c => { c with epochSource := x }) s
  | .portEpochBytes => (writePortEpochBytes n s, storedCode (clampNumber 1 262143 n) n)
  | .penaltyScale => writeNumber 0 256 n (fun x => State.onCe fun c => { c with penaltyScale := x }) s
  | .rescueScale => writeNumber 256 512 n (fun x => State.onCe fun c => { c with rescueScale := x }) s
  | .readFactor => writeNumber 1 1023 n (fun x => State.onCe fun c => { c with readFactor := x }) s
  | .writeFactor => writeNumber 1 1023 n (fun x => State.onCe fun c => { c with writeFactor := x }) s
  | .responseTimeout => writeNumber 0 65535 n (fun x => State.onFu fun u => { u with responseTimeout := x }) s
  | .windowEpochs => writeNumber 1 255 n (fun x => State.onMu fun m => { m with windowLength := x }) s
  | .overDeclare => writeNumber 1 255 n (fun x => State.onMu fun m => { m with overDeclare := x }) s
  | .overClear => writeNumber 1 255 n (fun x => State.onMu fun m => { m with overClear := x }) s
  | .starveDeclare => writeNumber 1 255 n (fun x => State.onMu fun m => { m with starveDeclare := x }) s
  | .starveClear => writeNumber 1 255 n (fun x => State.onMu fun m => { m with starveClear := x }) s
  | .mark m => (writeMark m n s, storedCode (storedMark s.hs m n) n)
  | .paceDirection => writeCode (directionOf n) writeDirection s
  | .eventMask => (writeMask v s, storedCode (v &&& maskBits).toNat n)

/-- R175: a change-list entry's field as written. -/
def setListField (i : Fin 32) (f : ListField) (v : Word) (s : State) : State :=
  s.onClu fun c =>
    { c with
      list := c.list.set i
        (match f with
         | .kind => { c.list[i] with kind := v }
         | .target => { c.list[i] with target := v.setWidth 16 }
         | .value => { c.list[i] with value := v }) }

/-- R175: a write to a change-list entry is stored unchecked while IDLE and refused while RUNNING. -/
def writeListField (i : Fin 32) (f : ListField) (v : Word) (s : State) : State × AnswerCode :=
  if s.clu.run.isSome then (s, .refusedState) else (setListField i f v s, .done)

/-- R177: a write to a trigger setting. -/
def writeTriggerField (f : TriggerField) (v : Nat) (s : State) : State × AnswerCode :=
  match f with
  | .source => writeCode (triggerOf v) writeTriggerSource s
  | .oneShot => writeCode (yesNoOf v) (fun b => State.onClu fun c => { c with oneShot := b }) s
  | .countdownLength => writeNumber 1 65535 v (fun n => State.onClu fun c => { c with countdownLength := n }) s

/-- R186: a write is handed to its field's owner; a field marked R refuses it. -/
def writeAt (f : Field) (v : Word) (s : State) : State × AnswerCode :=
  match f with
  | .entry e x => writeEntryField e x v.toNat s
  | .cls c x => writeClassField c x v.toNat s
  | .slot i x => writeSlotField i x v.toNat s
  | .wheel x => writeWheelSetting x v.toNat s
  | .global x => writeGlobalField x v s
  | .list i x => writeListField i x v s
  | .trigger x => writeTriggerField x v.toNat s
  | .entryRuntime _ _ => refuseWrite s
  | .wheelRuntime _ => refuseWrite s
  | .globalRuntime _ => refuseWrite s
  | .triggerRuntime _ => refuseWrite s
  | .meter _ _ => refuseWrite s
  | .meterGlobal _ => refuseWrite s
  | .counter _ _ => refuseWrite s

end Sys2Proof.Machine
end

