-- ==== Sys2Proof/Machine/ChangeListRun.lean ====
section
/-! DEFINITION. The change-list run (section 10.3). -/

namespace Sys2Proof.Machine

/-- Section 11.2: the kinds of change-list entry. -/
inductive ListKind where
  | fin | setFloor | setCeiling | setWeight | setBurst | setClass | setKey | setMask | enable | disable
  | setSlot | setPenalty | setRescue
deriving DecidableEq, Repr

/-- Section 11.2: the kind a stored kind code names, if it names one. END is `fin`. -/
def listKindOf : Nat → Option ListKind
  | 0x00 => some .fin
  | 0x01 => some .setFloor
  | 0x02 => some .setCeiling
  | 0x03 => some .setWeight
  | 0x04 => some .setBurst
  | 0x05 => some .setClass
  | 0x06 => some .setKey
  | 0x07 => some .setMask
  | 0x08 => some .enable
  | 0x09 => some .disable
  | 0x0A => some .setSlot
  | 0x0B => some .setPenalty
  | 0x0C => some .setRescue
  | _ => none

/-- R176: the write an entry makes at its target requester entry. -/
def applyToEntry (f : EntryField) (target v : Nat) (s : State) : State × AnswerCode :=
  match finOf 48 target with
  | some e => writeEntryField e f v s
  | none => refuseWrite s

/-- R176, section 11.2: SET_SLOT carries the class code in its low byte and the enabled flag in bit 8, and writes
both fields together. -/
def applyToSlot (target v : Nat) (s : State) : State × AnswerCode :=
  match finOf 16 target, classOf (v % 2 ^ 8) with
  | some i, some c => (setSlot i (fun _ => ⟨c, decide (v / 2 ^ 8 % 2 = 1)⟩) s, .done)
  | _, _ => refuseWrite s

/-- R176: the write an entry of each kind makes at its owner; one that the owner refuses, or whose target is out of
range, is invalid (R181). -/
def applyKind (k : ListKind) (target : Nat) (value : Word) (s : State) : State × AnswerCode :=
  match k with
  | .fin => (s, .done)
  | .setFloor => applyToEntry .floor target value.toNat s
  | .setCeiling => applyToEntry .ceiling target value.toNat s
  | .setWeight => applyToEntry .weight target value.toNat s
  | .setBurst => applyToEntry .burst target value.toNat s
  | .setClass => applyToEntry .cls target value.toNat s
  | .setKey => applyToEntry .key target (value.toNat % 2 ^ 16) s
  | .setMask => applyToEntry .mask target (value.toNat % 2 ^ 16) s
  | .enable => applyToEntry .enabled target 1 s
  | .disable => applyToEntry .enabled target 0 s
  | .setSlot => applyToSlot target value.toNat s
  | .setPenalty => writeGlobalField .penaltyScale value s
  | .setRescue => writeGlobalField .rescueScale value s

/-- R180: the run ends with ACTION_DONE and the number of entries applied. -/
def runDone (n : Nat) (s : State) : State :=
  postEvent .actionDone none (some n) (s.onClu fun c => { c with run := none })

/-- R181: the run ends at an invalid entry with ACTION_FAULT and the entry's index. -/
def runFault (n : Nat) (s : State) : State :=
  postEvent .actionFault none (some n) (s.onClu fun c => { c with run := none })

/-- R180: the run goes on to the next entry, or ends after entry 31, in the step that applies it (assumption 38). -/
def runOn (p : Fin 32) (s : State) : State :=
  if p.val = 31 then runDone 32 s else s.onClu fun c => { c with run := some (p + 1) }

/-- R180, R181: the run applies the entry at its position. -/
def applyNext (s : State) : State :=
  match s.clu.run with
  | none => s
  | some p =>
    let x := s.clu.list[p]
    match listKindOf x.kind.toNat with
    | none => runFault p.val s
    | some .fin => runDone p.val s
    | some k =>
      let r := applyKind k x.target.toNat x.value s
      if r.2 = .badTarget then runFault p.val r.1 else runOn p r.1

/-- CHANGE_LIST_APPLY. -/
def execChangeListApply (s : State) : Host.Outcome State Fault Refusal := whilePowered applyNext s

end Sys2Proof.Machine
end

