-- ==== Sys2Proof/Machine/Upstream.lean ====
section
/-! DEFINITION. The Upstream Port's own commands (chapter 1): what arrives from the switch, the switch's credits,
and the upstream response arbiter. -/

namespace Sys2Proof.Machine

/-! ### Units from the switch -/

/-- R6: the beat places of the arrival queue that are taken. -/
def queuedBeats (u : UpPort) : Nat := (u.queue.map (·.beats.length)).sum

/-- The packet at the tail of the arrival queue, whose units are still arriving, is changed. -/
def onTail (f : ArrivalPacket → ArrivalPacket) : List ArrivalPacket → List ArrivalPacket
  | [] => []
  | [p] => [f p]
  | p :: q :: rest => p :: onTail f (q :: rest)

/-- R53: an event ends the packet whose units are arriving. A write still in the arrival queue keeps the event for
its hold; a held or released one takes it now. -/
def endPacket (ev : Closing) (s : State) : State :=
  match s.up.reception with
  | .queued => s.onUp fun u => { u with queue := onTail (fun p => { p with closing := some ev }) u.queue }
  | .cells c => closeReception c ev s
  | .stray => s
  | .answered => s
  | .overrun => s

def setReception (r : UpReception) (s : State) : State := s.onUp fun u => { u with reception := r }

/-- R6, R10: a header arrives: the packet before it ends; the header joins the queue's tail, or is an overrun if 8
headers stand there. The switch spent a credit on it. -/
def headerArrives (h : Header) (s : State) : State :=
  let ended := (endPacket .nextHeader s).onUp fun u => { u with headerAdvertised := u.headerAdvertised - 1 }
  if ended.up.queue.length < Config.arrivalPlaces then
    ended.onUp fun u =>
      { u with queue := u.queue ++ [⟨h, [], none, false⟩],
               reception := if isWriteRequest h then .queued else .stray }
  else postFault .overrun none (setReception .overrun ended)

/-- R6: a beat that finds every beat place taken is an overrun; the packet it belongs to will be a length
mismatch. -/
def loseBeat (s : State) : State :=
  match s.up.reception with
  | .queued => s.onUp fun u => { u with queue := onTail (fun p => { p with lostBeat := true }) u.queue }
  | .cells c => setReservation c (fun r => { r with lostBeat := true }) s
  | .stray => s
  | .answered => s
  | .overrun => s

/-- R1, R6, R10, R52: a beat arrives. The switch spent a credit on it. -/
def beatArrives (b : Beat) (s : State) : State :=
  let spent := s.onUp fun u => { u with dataAdvertised := u.dataAdvertised - 1 }
  if Config.arrivalBeatPlaces ≤ queuedBeats s.up then postFault .overrun none (loseBeat spent)
  else
    match s.up.reception with
    | .queued => spent.onUp fun u => { u with queue := onTail (fun p => { p with beats := p.beats ++ [b] }) u.queue }
    | .cells c => landBeat c b spent
    | .answered => returnUpData 1 spent
    | .overrun => returnUpData 1 spent
    | .stray => postFault .stray none (returnUpData 1 spent)

/-- R1, R53: a mark arrives. It closes the write it belongs to; after a header that allows no mark, or once the
packet is closed, it is stray. -/
def markArrives (ev : Closing) (s : State) : State :=
  match s.up.reception with
  | .queued => setReception .stray (endPacket ev s)
  | .cells _ => setReception .stray (endPacket ev s)
  | .answered => setReception .stray s
  | .overrun => s
  | .stray => postFault .stray none s

/-- Between going down and coming up the upstream link carries nothing (section 1.10). -/
def onUpLink (f : State → State) (s : State) : State := if s.up.linkUp then f s else s

/-- UP_HEADER_ARRIVAL. -/
def execUpHeaderArrival (h : Header) (s : State) : Host.Outcome State Fault Refusal :=
  whilePowered (onUpLink (headerArrives h)) s

/-- UP_BEAT_ARRIVAL. -/
def execUpBeatArrival (b : Beat) (s : State) : Host.Outcome State Fault Refusal :=
  whilePowered (onUpLink (beatArrives b)) s

/-- UP_END_MARK. -/
def execUpEndMark (s : State) : Host.Outcome State Fault Refusal :=
  whilePowered (onUpLink (markArrives .endMark)) s

/-- REQUESTER_ABORT. -/
def execRequesterAbort (s : State) : Host.Outcome State Fault Refusal :=
  whilePowered (onUpLink (markArrives .abortMark)) s

/-! ### Credits and the upstream response arbiter -/

/-- R7: the switch advertises response credits. -/
def takeSwitchCredits (headers beats : Nat) (s : State) : State :=
  s.onUp fun u => { u with headerCredits := u.headerCredits + headers, dataCredits := u.dataCredits + beats }

/-- SWITCH_CREDIT_GRANT. -/
def execSwitchCreditGrant (headers beats : Nat) (s : State) : Host.Outcome State Fault Refusal :=
  whilePowered (onUpLink (takeSwitchCredits headers beats)) s

/-- R7, R12: the oldest forwarded response is ready to be sent. -/
def forwardedReady (s : State) : Bool :=
  match s.dp.whole with
  | [] => false
  | r :: _ => decide (1 ≤ s.up.headerCredits) && decide (r.beats.length ≤ s.up.dataCredits)

/-- R7, R12: the head of the generated-response queue is ready to be sent. -/
def generatedReady (s : State) : Bool := !s.up.generated.isEmpty && decide (1 ≤ s.up.headerCredits)

/-- R12: the arbiter's choice: the one that is ready, or, of two, the kind it did not send last. -/
def chooseResponse (s : State) : Option ResponseKind :=
  match forwardedReady s, generatedReady s with
  | false, false => none
  | true, false => some .forwarded
  | false, true => some .generated
  | true, true => if s.up.lastKind = some .forwarded then some .generated else some .forwarded

/-- The upstream port puts a response packet on the link, spending the switch's credits for it (R7). -/
def putUp (kind : ResponseKind) (h : Header) (beats : List Beat) (s : State) : State :=
  s.onUp fun u =>
    { u with headerCredits := u.headerCredits - 1, dataCredits := u.dataCredits - beats.length,
             lastKind := some kind, sent := u.sent ++ LinkUnit.header h :: beats.map LinkUnit.beat }

/-- R9, R12: the oldest forwarded response is sent whole and its response buffer places are freed. -/
def sendForwarded (s : State) : State :=
  match s.dp.whole with
  | [] => s
  | r :: rest => returnDown 1 r.beats.length (putUp .forwarded r.header r.beats (s.onDp fun d => { d with whole := rest }))

/-- R11, R12: the head of the generated-response queue is sent. -/
def sendGenerated (s : State) : State :=
  match s.up.generated with
  | [] => s
  | h :: rest => putUp .generated h [] (s.onUp fun u => { u with generated := rest })

/-- R12: one choice of the upstream response arbiter. -/
def sendResponse (s : State) : State :=
  match chooseResponse s with
  | none => s
  | some .forwarded => sendForwarded s
  | some .generated => sendGenerated s

/-- UP_RESPONSE_SEND. -/
def execUpResponseSend (s : State) : Host.Outcome State Fault Refusal :=
  whilePowered (onUpLink sendResponse) s

end Sys2Proof.Machine
end

