-- ==== Sys2Proof/Machine/Disposition.lean ====
section
/-! DEFINITION. The arrival disposition (section 3.4): the eight checks in their order and what each outcome does. -/

namespace Sys2Proof.Machine

/-- The five ways an attempt ends (R42); an answer carries its status and the checks' counting. -/
inductive Verdict where
  /-- R43: malformed. -/
  | malformed
  /-- R44, R29: outside the window of the matched entry. -/
  | window (e : EntryIx)
  /-- R45: the pair is held or in flight. -/
  | duplicate (e : EntryIx)
  /-- R46, R47, R48, R50: deferred. -/
  | defer (e : EntryIx)
  /-- R48: the attempt stalls. -/
  | stall
  /-- R49: held for the matched entry. -/
  | hold (e : EntryIx)
deriving DecidableEq, Repr

/-- R45: the pair is held by a descriptor or a flight entry. -/
def pairInUse (s : State) (rid : ReqId) (tag : Tag) : Bool :=
  s.hs.held.any (fun d => samePair d.txn rid tag) || (flightOf s rid tag).isSome

/-- R48: the pool can hold the transaction. -/
def poolHasRoom (s : State) (t : Txn) : Bool :=
  decide (1 ≤ freeDescriptors s) &&
    match t.kind with
    | .read => true
    | .write => decide (cellsFor (txnLength t) ≤ freeCells s)

/-- R43 to R48: the checks, in their order. The first that decides ends the act. -/
def verdictOf (h : Header) (s : State) : Verdict :=
  let e := matchEntry s h.requesterId
  let policy := (classRecordOf s e).policy
  if requestMalformed h then .malformed
  else if !inWindow s.rmu.entries[e] (txnOf h) then .window e
  else if pairInUse s h.requesterId h.tag then .duplicate e
  else if s.rmu.entries[e].quota ≤ heldCount s e then .defer e
  else if s.hs.pressureOn && policy == .defer then .defer e
  else if !poolHasRoom s (txnOf h) then (if policy = .defer then .defer e else .stall)
  else .hold e

/-- R42: the head leaves the queue and its header credit goes back; the units of its packet that are still to come
belong to `next` if the packet is still open. -/
def takeHead (rest : List ArrivalPacket) (next : UpReception) (s : State) : State :=
  returnUpHeader 1
    ((s.onHs fun h => { h with stalled := false, retryDue := false }).onUp fun u =>
      { u with queue := rest,
               reception := if u.reception = .queued ∧ rest = [] then next else u.reception })

/-- R10, R42: the head is answered now; its beats are discarded and their data credits go back. -/
def answerHead (p : ArrivalPacket) (rest : List ArrivalPacket) (st : Status) (s : State) : State :=
  placeGenerated (answerHeader p.header st) (returnUpData p.beats.length (takeHead rest .answered s))

/-- R50: the Meter Unit counts a DEFER answer in the entry's open window. -/
def meterDeferral (e : EntryIx) : State → State :=
  setMeter e fun m => { m with deferrals := saturate 65535 (m.deferrals + 1), backlog := true }

/-- R49: the descriptor a hold fills. -/
def newDescriptor (h : Header) (e : EntryIx) (s : State) : Descriptor :=
  let t := txnOf h
  { number := freshDescriptor s.hs, entry := e, txn := t, stamp := s.hs.arrivalCounter,
    cells :=
      match t.kind with
      | .read => none
      | .write => some ((lowestFreeCells s.hs (cellsFor (txnLength t))).headD 0),
    fence := youngestOverlap s.hs.held e (otherKind t.kind) t }

/-- R49: the reservation a hold makes for a write. -/
def newReservation (h : Header) (e : EntryIx) (lost : Bool) (s : State) : Reservation :=
  { txn := txnOf h, entry := e, cells := lowestFreeCells s.hs (cellsFor (txnLength (txnOf h))), received := 0,
    data := .receiving, transmission := .pending, lostBeat := lost }

/-- R49: the five steps of a hold at the Hold Store. -/
def storeHeld (p : ArrivalPacket) (e : EntryIx) (s : State) : State :=
  s.onHs fun h =>
    { h with held := h.held ++ [newDescriptor p.header e s], arrivalCounter := h.arrivalCounter + 1,
             reservations :=
               if isWriteRequest p.header then h.reservations ++ [newReservation p.header e p.lostBeat s]
               else h.reservations }

/-- R49: the head is held; a write's beats already in the queue are then written, followed by its closing event if
that has come. -/
def holdHead (p : ArrivalPacket) (rest : List ArrivalPacket) (e : EntryIx) (s : State) : State :=
  let cell := (newDescriptor p.header e s).cells.getD 0
  let held := wake (evaluatePressure (takeHead rest (.cells cell) (storeHeld p e s)))
  if isWriteRequest p.header then
    let landed := p.beats.foldl (fun t b => landBeat cell b t) held
    match p.closing with
    | some ev => closeReception cell ev landed
    | none => landed
  else held

/-- R10, R48: is the head offered to the Hold Store, and, if it stalled, is its retry due? -/
def headOffered (s : State) : Bool :=
  decide (s.up.generated.length < Config.generatedPlaces) && s.mp.ready && (!s.hs.stalled || s.hs.retryDue)

/-- R42: one attempt at the head of the arrival queue. -/
def dispose (s : State) : State :=
  match s.up.queue with
  | [] => s
  | p :: rest =>
    if headOffered s then
      match verdictOf p.header s with
      | .malformed => answerHead p rest .protocol (postFault .malformed none s)
      | .window e => answerHead p rest .window (countRefusal e s)
      | .duplicate e => answerHead p rest .protocol (countRefusal e (postFault .duplicateTag (some e) s))
      | .defer e => answerHead p rest .defer (countDeferral e (meterDeferral e s))
      | .stall => s.onHs fun h => { h with stalled := true, retryDue := false }
      | .hold e => holdHead p rest e s
    else s

/-- DISPOSITION. -/
def execDisposition (s : State) : Host.Outcome State Fault Refusal := whilePowered dispose s

end Sys2Proof.Machine
end

