-- ==== Sys2Proof/Machine/Wheel.lean ====
section
/-! DEFINITION. The Grant Wheel's visits and releases (sections 5.4 to 5.6): the release, the slot visit, the pair step
and the drain search. -/

namespace Sys2Proof.Machine

/-! ### The release (R90) -/

/-- R114: the charge of a transaction, from the factor of its kind as it stands. -/
def chargeOf (c : CreditEngine) (t : Txn) : Nat :=
  ceilDiv ((txnLength t + Config.chargeOverhead) *
    (match t.kind with
     | .read => c.readFactor
     | .write => c.writeFactor)) 256

/-- R90, R114: the entry is charged. -/
def chargeEntry (e : EntryIx) (t : Txn) (s : State) : State :=
  setBalance e (s.ce.records[e].balance - (chargeOf s.ce t : Int)) s

/-- R147: the length is added to the released bytes of the entry's open window. -/
def meterRelease (e : EntryIx) (n : Nat) : State → State :=
  setMeter e fun m => { m with released := saturate (2 ^ 32 - 1) (m.released + n) }

/-- R124: a flight entry is recorded. -/
def recordFlight (d : Descriptor) (s : State) : State :=
  s.onFu fun u => { u with table := u.table ++ [⟨d.txn, d.entry, .granted, none, false⟩] }

/-- R90, step 5: the lane holds the transaction as its granted release, and its round has released something. -/
def grantRelease (l : LaneName) (d : Descriptor) (s : State) : State :=
  setLane l (fun x => { x with released := true })
    (s.onGw fun g => { g with grants := g.grants ++ [⟨l, d.entry, d.txn, d.cells, false⟩] })

/-- R90, step 1: the head leaves its list, its descriptor is freed and the fences on it lift (R58, R69). -/
def releaseDescriptor (d : Descriptor) (s : State) : State :=
  afterFreeing (s.onHs fun h => { h with held := liftFences d.number (h.held.filter (·.number != d.number)) })

/-- R90, R93: the release of a head by a lane. The drain lane takes no charge. Each fence that lifts is reported
(R69). -/
def release (l : LaneName) (d : Descriptor) (s : State) : State :=
  let freed := releaseDescriptor d s
  let charged := if l = .drain then freed else chargeEntry d.entry d.txn freed
  let recorded := recordFlight d (countReleased d.entry (txnLength d.txn) (meterRelease d.entry (txnLength d.txn) charged))
  wakes (s.hs.held.countP fun f => f.fence == some d.number) (grantRelease l d recorded)

/-! ### The slot visit (R84) -/

/-- R86: the lane's pointer for a class moves to the entry served. -/
def movePointer (l : LaneName) (c : SvcClass) (e : EntryIx) (s : State) : State :=
  s.onGw fun g =>
    match l with
    | .write => { g with writePointers := g.writePointers.set c e }
    | .read => { g with readPointers := g.readPointers.set c e }
    | .shared => { g with readPointers := g.readPointers.set c e }
    | .drain => g

/-- R84, R91: a visit from a place of its search: a rescue scan, then a class search, then a skip. -/
def visitFrom (l : LaneName) (p : SearchPlace) (s : State) : State :=
  match rescueScan s l p.rescue with
  | some d => release l d s
  | none =>
    match classSearch s l p.cls p.order with
    | some d => movePointer l p.cls d.entry (release l d s)
    | none => visitDone l s

/-- R84: the visit of a slot of class c. -/
def visit (l : LaneName) (c : SvcClass) (s : State) : State := visitFrom l (slotSearch s l c) s

/-- The visit of a lane whose slot has been read. -/
def visitPhase (l : LaneName) (s : State) : State :=
  match (s.gw.lanes.get l).phase with
  | .visiting c => visit l c s
  | .searching p => visitFrom l p s
  | .arrive => s
  | .done => s

/-- R79: a lane that goes round by itself arrives at its slot: it visits it, or, at a disabled slot, its round
ends. A visit whose search is under way goes on (R91). -/
def arriveAndVisit (l : LaneName) (s : State) : State :=
  match (s.gw.lanes.get l).phase with
  | .searching p => visitFrom l p s
  | .arrive | .visiting _ | .done =>
    let slot := s.gw.slots[(s.gw.lanes.get l).slot]
    if slot.enabled then visit l slot.cls s else endRound [l] s

/-- R84: a visit by an active wheel lane in WALKING; for any other lane there is nothing to visit. Under
SPLIT_LOCKED the first visit of a pair not yet come to makes the step to it. -/
def slotVisit (l : LaneName) (s : State) : State :=
  if l ∈ wheelLanes s ∧ laneState s l = .walking ∧ !lanesStopped s then
    match s.gw.appliedSplit with
    | .splitLocked =>
      match (s.gw.lanes.get l).phase with
      | .arrive => visitPhase l (pairArrive s)
      | .visiting c => visit l c s
      | .searching p => visitFrom l p s
      | .done => s
    | .shared => arriveAndVisit l s
    | .splitFree => arriveAndVisit l s
  else s

/-- SLOT_VISIT. -/
def execSlotVisit (l : LaneName) (s : State) : Host.Outcome State Fault Refusal := whilePowered (slotVisit l) s

/-- R80: both lanes of a pair stand at this phase. -/
def bothAt (p : VisitPhase) (s : State) : Bool :=
  (s.gw.lanes.get .read).phase == p && (s.gw.lanes.get .write).phase == p

/-- R80: under SPLIT_LOCKED, once both visits of a pair are done, both lanes step to the next pair or end the
round after pair 7; at a round's beginning they step to pair 0. -/
def slotPairStep (s : State) : State :=
  if effectiveMode s = .regulate ∧ s.gw.appliedSplit = .splitLocked ∧ !lanesStopped s
      ∧ laneState s .read = .walking ∧ laneState s .write = .walking then
    if bothAt .arrive s then pairArrive s
    else if bothAt .done s then
      if (s.gw.lanes.get .read).slot = lastSlot .read then endRound [.read, .write] s
      else
        pairArrive (setLane .read (fun x => { x with slot := x.slot + 1, phase := .arrive })
          (setLane .write (fun x => { x with slot := x.slot + 1, phase := .arrive }) s))
    else s
  else s

/-- SLOT_PAIR_STEP. -/
def execSlotPairStep (s : State) : Host.Outcome State Fault Refusal := whilePowered slotPairStep s

/-! ### The drain lane (R93, R94) -/

/-- R93: the unfenced heads of every hold list of every enabled entry, in the order equal ages rank (R65). -/
def drainHeads (s : State) : List Descriptor :=
  (List.finRange 48).flatMap fun e =>
    if s.rmu.entries[e].enabled then
      ((headOf s e .read).toList ++ (headOf s e .write).toList).filter (·.fence.isNone)
    else []

/-- R65: the oldest of these, the first of those of equal age. -/
def oldestOf (s : State) : List Descriptor → Option Descriptor
  | [] => none
  | d :: ds =>
    match oldestOf s ds with
    | none => some d
    | some x => if ageOf s x ≤ ageOf s d then some d else some x

/-- R93: the one act of a drain search: the oldest unfenced head is released if it is ready, and otherwise nothing
is. -/
def drainOnce (s : State) : State :=
  match oldestOf s (drainHeads s) with
  | none => restLane .drain s
  | some d => if dataReady s d && flightRoom s d.entry then release .drain d s else restLane .drain s

/-- R93, R96: a search by the drain lane in WALKING, in BYPASS, once no granted release is left in another lane. -/
def drainSearch (s : State) : State :=
  if s.mp.mode = .bypass ∧ laneState s .drain = .walking ∧ s.gw.grants = [] then drainOnce s else s

/-- DRAIN_SEARCH. -/
def execDrainSearch (s : State) : Host.Outcome State Fault Refusal := whilePowered drainSearch s

end Sys2Proof.Machine
end

