-- ==== Sys2Proof/Machine/Downstream.lean ====
section
/-! DEFINITION. The Downstream Port's own commands (chapters 1, 4 and 7): what arrives from memory, memory's credits,
the downstream link arbiter, sending a packet unit by unit, underruns and response timeouts. -/

namespace Sys2Proof.Machine

/-! ### Units from memory (R1, R3, R9, R15) -/

/-- R9: the beats of the response under way. -/
def receivingBeats (d : DownPort) : Nat :=
  match d.reception with
  | .receiving r => r.beats.length
  | .stray => 0
  | .discarding => 0

/-- R9: the response header places taken. -/
def headerPlacesTaken (d : DownPort) : Nat :=
  d.whole.length +
    match d.reception with
    | .receiving _ => 1
    | .stray => 0
    | .discarding => 0

/-- R9: the response beat places taken. -/
def beatPlacesTaken (d : DownPort) : Nat := (d.whole.map (·.beats.length)).sum + receivingBeats d

def setDownReception (r : DownReception) (s : State) : State := s.onDp fun d => { d with reception := r }

/-- R3: a response found malformed is discarded whole, its places are freed, and PROTOCOL_FAULT is posted. -/
def discardMalformed (headers beats : Nat) (next : DownReception) (s : State) : State :=
  postFault .badResponse none (returnDown headers beats (setDownReception next s))

/-- R3: a header that comes before the last beat of the response under way shows that response malformed. -/
def endResponse (s : State) : State :=
  match s.dp.reception with
  | .receiving r => discardMalformed 1 r.beats.length .stray s
  | .stray => setDownReception .stray s
  | .discarding => setDownReception .stray s

/-- R3, R9, R15: a response header arrives. Memory spent a credit on it. The response under way, if there is one, ends
first and its place is freed, and the header may take that place even if memory had no credit for it (assumption 19,
DESIGN CHOICE of this order of R3 and R15). -/
def responseHeaderArrives (h : Header) (s : State) : State :=
  let ended := endResponse s
  let spent := ended.onDp fun d => { d with headerAdvertised := d.headerAdvertised - 1 }
  if Config.responseHeaderPlaces ≤ headerPlacesTaken ended.dp then postFault .badResponse none spent
  else if responseMalformed h then discardMalformed 1 0 .stray spent
  else if carriesData h then setDownReception (.receiving ⟨h, []⟩) spent
  else handResponse ⟨h, []⟩ spent

/-- R3: one more beat of the response under way, which has its place. -/
def extendResponse (r : Response) (b : Beat) (s : State) : State :=
  let n := r.beats.length + 1
  let r' : Response := { r with beats := r.beats ++ [b] }
  if b.length ≠ beatSize (headerLength r.header) n then discardMalformed 1 n .discarding s
  else if n = beatsOf (headerLength r.header) then handResponse r' (setDownReception .stray s)
  else setDownReception (.receiving r') s

/-- R1, R3, R9, R15: a response beat arrives. Memory spent a credit on it. A beat that finds no free place is
discarded, and a response it belongs to becomes malformed. One that belongs to no response is stray whether or not it
finds a place, and one that follows a response found malformed at a beat posts nothing (assumption 35). -/
def responseBeatArrives (b : Beat) (s : State) : State :=
  let spent := s.onDp fun d => { d with dataAdvertised := d.dataAdvertised - 1 }
  let full := decide (Config.responseBeatPlaces ≤ beatPlacesTaken s.dp)
  let freed := if full then spent else returnDown 0 1 spent
  match s.dp.reception with
  | .receiving r => if full then discardMalformed 1 r.beats.length .discarding spent else extendResponse r b spent
  | .stray => postFault .stray none freed
  | .discarding => freed

/-- R1, R3: a mark from memory is always stray; after a response found malformed at a beat it is discarded with it
and posts nothing further. -/
def responseMarkArrives (s : State) : State :=
  match s.dp.reception with
  | .discarding => s
  | .stray => postFault .stray none s
  | .receiving _ => postFault .stray none s

/-- Between going down and coming up the downstream link carries nothing (section 1.10). -/
def onDownLink (f : State → State) (s : State) : State := if s.dp.linkUp then f s else s

/-- RESPONSE_HEADER_ARRIVAL. -/
def execResponseHeaderArrival (h : Header) (s : State) : Host.Outcome State Fault Refusal :=
  whilePowered (onDownLink (responseHeaderArrives h)) s

/-- RESPONSE_BEAT_ARRIVAL. -/
def execResponseBeatArrival (b : Beat) (s : State) : Host.Outcome State Fault Refusal :=
  whilePowered (onDownLink (responseBeatArrives b)) s

/-- RESPONSE_MARK_ARRIVAL: which of the two marks it is makes no difference. -/
def execResponseMarkArrival (_m : Mark) (s : State) : Host.Outcome State Fault Refusal :=
  whilePowered (onDownLink responseMarkArrives) s

/-- R8: memory advertises request credits. -/
def takeMemoryCredits (headers beats : Nat) (s : State) : State :=
  s.onDp fun d => { d with headerCredits := d.headerCredits + headers, dataCredits := d.dataCredits + beats }

/-- MEMORY_CREDIT_GRANT. -/
def execMemoryCreditGrant (headers beats : Nat) (s : State) : Host.Outcome State Fault Refusal :=
  whilePowered (onDownLink (takeMemoryCredits headers beats)) s

/-! ### The downstream link arbiter (R13) -/

/-- R74: a granted release waits for its predecessor: an earlier release of another lane, of the same entry and of
the other kind, that overlaps it and has not begun. -/
def hasPredecessor (earlier : List Grant) (g : Grant) : Bool :=
  earlier.any fun p => p.holder != g.holder && p.entry == g.entry && p.txn.kind != g.txn.kind && overlap p.txn g.txn

/-- R73: a granted release waits for one of the same entry and kind that another lane holds and that was released
before it, so that one hold list's transactions begin in hold order whichever lanes release them (assumption 39). -/
def behindOnItsList (earlier : List Grant) (g : Grant) : Bool :=
  earlier.any fun p => p.holder != g.holder && p.entry == g.entry && p.txn.kind == g.txn.kind

/-- R8: the Downstream Port holds the memory credits this release's packet needs. -/
def creditsFor (d : DownPort) (g : Grant) : Bool :=
  decide (1 ≤ d.headerCredits) && decide (requestBeats g.txn ≤ d.dataCredits)

/-- R13, R96: in BYPASS the one candidate is the drain lane; otherwise every lane with a granted release is. -/
def isCandidate (s : State) (g : Grant) : Bool :=
  match effectiveMode s with
  | .bypass => g.holder == .drain
  | .regulate => true

/-- The ready candidates among `later`, in the order they were released; `earlier` was released before them. -/
def readyAmong (s : State) (earlier : List Grant) : List Grant → List Grant
  | [] => []
  | g :: rest =>
    let others := readyAmong s (earlier ++ [g]) rest
    if isCandidate s g && !hasPredecessor earlier g && !behindOnItsList earlier g && creditsFor s.dp g then g :: others
    else others

/-- R13: the ready candidates; none while a packet is being sent or the link is down. -/
def readyGrants (s : State) : List Grant :=
  if s.dp.sending.isNone && s.dp.linkUp then readyAmong s [] s.gw.grants else []

/-- R13: of the read lane and the write lane both ready, the one that did not send the previous packet. -/
def alternate (last : Option LaneName) : LaneName := if last = some .read then .write else .read

/-- R13: the arbiter's choice. The two split lanes alternate; while a lane that only keeps its release is ready
together with others, the earliest release of all the ready ones goes first (assumption 34). -/
def chooseGrant (s : State) : Option Grant :=
  match readyGrants s with
  | [] => none
  | g :: rest =>
    if rest = [] ∨ (g :: rest).any (fun x => decide (x.holder ∉ lanesActive s)) then some g
    else (g :: rest).find? (·.holder == alternate s.dp.lastLane)

/-- R96: the drain lane takes, as its own, the granted release left in another lane that was released first. -/
def drainTakeOver (s : State) : State :=
  match s.gw.grants with
  | [] => s
  | g :: rest => s.onGw fun w => { w with grants := { g with holder := .drain } :: rest }

/-- R81, R94, R96, R97, R78: what a lane does when its granted release has begun. -/
def laneBegun (l : LaneName) (s : State) : State :=
  if l ∈ lanesActive s then
    if l = .drain ∧ s.gw.grants ≠ [] then drainTakeOver s
    else if s.mp.mode = .halted then stopLane l s
    else if l = .drain then setLane .drain (fun x => { x with motion := .walking }) s
    else if (s.gw.lanes.get l).motion = .walking then visitDone l s
    else s
  else restLane l s

/-- R14, R125, R140: the packet of a granted release begins. A READ request ends whole with its header; a cut
release is ended by an abort mark after it; a write goes on being sent. -/
def putPacket (g : Grant) (s : State) : State :=
  let put := fun units : List LinkUnit => s.onDp fun d =>
    { d with headerCredits := d.headerCredits - 1, lastLane := some g.holder,
             sent := d.sent ++ LinkUnit.header (requestHeader g.txn) :: units }
  match g.cells with
  | none => flightAwaits g.txn (flightBegins g.txn (put []))
  | some c =>
    if g.cut then freeCellsIfFinished c (setTransmission c .done (put [.mark .abortMark]))
    else
      setTransmission c .sending
        (flightBegins g.txn ((put []).onDp fun d => { d with sending := some ⟨g.txn, g.entry, c, 0, false⟩ }))

/-- R13, R92: the arbiter begins the packet it chooses, and the granted release leaves its lane. -/
def packetBegin (s : State) : State :=
  match chooseGrant s with
  | none => s
  | some g =>
    laneBegun g.holder
      ((putPacket g s).onGw fun w => { w with grants := w.grants.filter (·.holder != g.holder) })

/-- PACKET_BEGIN. -/
def execPacketBegin (s : State) : Host.Outcome State Fault Refusal := whilePowered packetBegin s

/-! ### Sending a write unit by unit (section 7.6) -/

/-- R39, R134: the bytes of beat k, counting from 1, as they stand in the write's cells. -/
def beatFromCells (s : State) (p : Sending) (k : Nat) : Beat :=
  match reservationAt s p.cells with
  | none => []
  | some r =>
    readBytes r.cells s.hs.bytes (Config.beatBytes * (k - 1)) (beatSize (txnLength p.txn) k)

/-- R8, R134: the next beat is sent, spending a data credit. -/
def sendBeat (p : Sending) (s : State) : State :=
  s.onDp fun d =>
    { d with dataCredits := d.dataCredits - 1,
             sending := some { p with beatsSent := p.beatsSent + 1, waiting := false },
             sent := d.sent ++ [.beat (beatFromCells s p (p.beatsSent + 1))] }

/-- R14, R59, R125: the end mark is sent and the packet has ended whole. -/
def sendEndMark (p : Sending) (s : State) : State :=
  freeCellsIfFinished p.cells
    (setTransmission p.cells .done
      (flightAwaits p.txn
        (s.onDp fun d => { d with sending := none, sent := d.sent ++ [.mark .endMark] })))

/-- R134, R135: the Downstream Port sends its next unit if that is ready, and otherwise waits, the underrun limit
running. -/
def unitSend (s : State) : State :=
  match s.dp.sending with
  | none => s
  | some p =>
    if nextUnitReady s p then
      if p.beatsSent < requestBeats p.txn then sendBeat p s else sendEndMark p s
    else s.onDp fun d => { d with sending := some { p with waiting := true } }

/-- DP_UNIT_SEND. -/
def execDpUnitSend (s : State) : Host.Outcome State Fault Refusal := whilePowered unitSend s

/-- R136: the packet of a write that has underrun is ended with an abort mark, its flight entry is removed and
answered, and the write drains. -/
def underrunWrite (p : Sending) (s : State) : State :=
  let rid := p.txn.requesterId
  let tag := p.txn.tag
  let cut := setTransmission p.cells .done
    (s.onDp fun d => { d with sending := none, sent := d.sent ++ [.mark .abortMark] })
  let removed := removeFlight rid tag cut
  let answered :=
    match flightOf s rid tag with
    | some f => answerFlight f .underrun removed
    | none => removed
  setData p.cells .draining (postEvent .underrun (some p.entry) (some (pairValue rid tag)) answered)

/-- R135, R136: a running underrun wait runs out, if its unit is still not ready. -/
def underrunExpires (s : State) : State :=
  match s.dp.sending with
  | none => s
  | some p => if p.waiting && !nextUnitReady s p then underrunWrite p s else s

/-- UNDERRUN. -/
def execUnderrun (s : State) : Host.Outcome State Fault Refusal := whilePowered underrunExpires s

/-! ### Response timeouts (R129) -/

/-- R129: the timer of the AWAITING entry with this pair runs out. -/
def timerExpires (rid : ReqId) (tag : Tag) (s : State) : State :=
  match flightOf s rid tag with
  | none => s
  | some f =>
    if f.phase = .awaiting ∧ f.timer.isSome then
      answerFlight f .timeout
        (postEvent .responseExpired (some f.entry) (some (pairValue rid tag))
          (countTimeout f.entry (removeFlight rid tag s)))
    else s

/-- RESPONSE_TIMER_EXPIRY. -/
def execResponseTimerExpiry (rid : ReqId) (tag : Tag) (s : State) : Host.Outcome State Fault Refusal :=
  whilePowered (timerExpires rid tag) s

end Sys2Proof.Machine
end

