-- ==== Sys2Proof/Machine/Links.lean ====
section
/-! DEFINITION. The four link events (section 1.10), each with the acts it brings at every block. -/

namespace Sys2Proof.Machine

/-! ### The upstream link goes down (R16, R56, R61, R99, R120, R131, R138, R162) -/

/-- R16: the Upstream Port empties its queues, discards the forwarded responses and forgets its credits. -/
def upPortDown (s : State) : State :=
  let places := s.dp.whole.length
  let beats := (s.dp.whole.map (·.beats.length)).sum
  returnDown places beats
    ((s.onDp fun d => { d with whole := [] }).onUp fun u =>
      { u with linkUp := false, queue := [], reception := .stray, generated := [], headerCredits := 0,
               dataCredits := 0, headerAdvertised := 0, dataAdvertised := 0 })

/-- R61: a held write's reservation as the link going down leaves it. -/
def closeReservation (r : Reservation) : Reservation :=
  { r with transmission := .done, data := if r.data = .receiving then .closed else r.data }

/-- R61: every held transaction is discarded without an answer; the stalled mark is cleared with the queue. -/
def holdStoreUpDown (s : State) : State :=
  (discardAll (fun _ => true) closeReservation s).onHs fun h => { h with stalled := false, retryDue := false }

/-- R53, R56, R138: the write whose units were arriving has its reception ended, if it is not among the held. -/
def releasedUpDown (r : UpReception) (s : State) : State :=
  match r with
  | .cells c => closeReception c .linkDown s
  | .stray => s
  | .queued => s
  | .answered => s
  | .overrun => s

/-- R131: every flight entry in use becomes an orphan. -/
def orphanAll (s : State) : State :=
  s.onFu fun u => { u with table := u.table.map fun f => { f with orphan := true } }

/-- R120: the Credit Engine at a soft reset or an upstream link reset: balances to B, the lent pool 0, a running
pass abandoned with its lending accumulator and its end reported as a wake. The accumulator is set to 0 whether or not a
pass runs, which R120 says of a running pass alone (assumption 48, DESIGN CHOICE). -/
def creditReset (s : State) : State :=
  wakeIf s.ce.pass.isSome <| s.onCe fun c =>
    { c with
      records := Vector.ofFn fun e : EntryIx =>
        { c.records[e] with
          balance := if s.rmu.entries[e].enabled then (s.rmu.entries[e].burst : Int) else c.records[e].balance },
      lent := 0, accumulator := 0, pass := none }

/-- R162: the Meter Unit zeroes every accumulator. -/
def clearAccumulators (s : State) : State :=
  s.onMu fun m =>
    { m with entries := Vector.ofFn fun e : EntryIx =>
        { m.entries[e] with released := 0, backlog := false, deferrals := 0 } }

/-- R86, R99: every rotation pointer is set to 0. -/
def clearPointers (s : State) : State :=
  s.onGw fun g => { g with readPointers := ⟨0, 0, 0, 0⟩, writePointers := ⟨0, 0, 0, 0⟩ }

/-- R16: the upstream link goes down. -/
def upLinkGoesDown (s : State) : State :=
  let port := postEvent .upLinkDown none none (upPortDown s)
  clearPointers (clearAccumulators (creditReset (orphanAll (releasedUpDown s.up.reception (holdStoreUpDown port)))))

/-- UP_LINK_DOWN: a link that is down cannot go down. -/
def execUpLinkDown (s : State) : Host.Outcome State Fault Refusal := whilePowered (onUpLink upLinkGoesDown) s

/-! ### The upstream link comes up (R17) -/

/-- R10, R17, R168: the credits the Upstream Port advertises once the link is up and READY is set. -/
def advertiseUp (s : State) : State :=
  if s.mp.ready then
    s.onUp fun u =>
      { u with headerAdvertised := Config.arrivalPlaces, dataAdvertised := Config.arrivalBeatPlaces }
  else s

/-- R17: the upstream link comes up. -/
def upLinkComesUp (s : State) : State :=
  if s.up.linkUp then s
  else advertiseUp (s.onUp fun u => { u with linkUp := true, lastKind := none, reception := .stray })

/-- UP_LINK_UP. -/
def execUpLinkUp (s : State) : Host.Outcome State Fault Refusal := whilePowered upLinkComesUp s

/-! ### The downstream link goes down (R18, R98, R133, R140) -/

/-- R18: the Downstream Port stops where it stands, forgets its credits and discards a response not yet whole. -/
def downPortDown (s : State) : State :=
  s.onDp fun d =>
    { d with linkUp := false, headerCredits := 0, dataCredits := 0, headerAdvertised := 0, dataAdvertised := 0,
             reception := .stray, sending := none }

/-- R98: every active lane enters STOPPED and every granted release that has not begun is dropped. -/
def lanesDown (s : State) : State :=
  [LaneName.read, .write, .shared, .drain].foldl
    (fun t l => if l ∈ lanesActive t then stopLane l t else restLane l t)
    (s.onGw fun g => { g with grants := [] })

/-- R133: every flight entry is removed, and answered LINK unless it is an orphan, in the order of release
(assumption 4); the removals are one wake. -/
def flightDown (s : State) : State :=
  wakeIf (!s.fu.table.isEmpty)
    (s.fu.table.foldl (fun t f => answerFlight f .link t) (s.onFu fun u => { u with table := [] }))

/-- R18, R62: the writes being sent or granted, whose transmission is counted as ended: the one being sent first, then
the granted ones in the order they were released. The manual gives no order of the freeings (assumption 4, DESIGN
CHOICE). -/
def unsentWrites (s : State) : List Nat :=
  (s.dp.sending.map (·.cells)).toList ++ s.gw.grants.filterMap (·.cells)

/-- R62: each such write's transmission becomes DONE, and its cells are freed if its reception has ended: one freeing
after another in the order of the list, each with its own evaluation of pressure (R59), so that an event carries the free
counts as they stand after the freeings before it (assumption 4, DESIGN CHOICE of the order). -/
def endTransmissions (cells : List Nat) (s : State) : State :=
  cells.foldl (fun t c => freeCellsIfFinished c (setTransmission c .done t)) s

/-- R18: the downstream link goes down. -/
def downLinkGoesDown (s : State) : State :=
  endTransmissions (unsentWrites s) (flightDown (lanesDown (postEvent .downLinkDown none none (downPortDown s))))

/-- DOWN_LINK_DOWN: a link that is down cannot go down. -/
def execDownLinkDown (s : State) : Host.Outcome State Fault Refusal :=
  whilePowered (onDownLink downLinkGoesDown) s

/-! ### The downstream link comes up (R19, R98) -/

/-- R19: the credits advertised to memory: one for each free place of the response buffer. -/
def downPortUp (s : State) : State :=
  s.onDp fun d =>
    { d with linkUp := true, lastLane := none, reception := .stray,
             headerAdvertised := Config.responseHeaderPlaces - d.whole.length,
             dataAdvertised := Config.responseBeatPlaces - (d.whole.map (·.beats.length)).sum }

/-- R97, R98: every active lane that is STOPPED begins as RESUME gives, once a changeover that is due has been taken.
R97 begins a lane also where R77 held it in IDLE for a changeover that is still not due (assumption 43). -/
def startLanes (s : State) : State :=
  let settled := changeoverIfDue s
  (lanesActive settled).foldl
    (fun t l => if (t.gw.lanes.get l).motion = .stopped then startLane l t else t) settled

/-- R19: the downstream link comes up. -/
def downLinkComesUp (s : State) : State := if s.dp.linkUp then s else startLanes (downPortUp s)

/-- DOWN_LINK_UP. -/
def execDownLinkUp (s : State) : Host.Outcome State Fault Refusal := whilePowered downLinkComesUp s

end Sys2Proof.Machine
end

