-- ==== Sys2Proof/Machine/ResetActs.lean ====
section
/-! DEFINITION. The acts that the blocks take of a soft reset (R172), each by itself and in any order (R173), and the
frames of the controller, each of which finds every act that was due taken (R184). -/

namespace Sys2Proof.Machine

/-! ### Each block's act (R172) -/

/-- R63, R91: every held transaction is answered DEFER and discarded; a search that had named one goes on after it. -/
def softResetHold (s : State) : State :=
  answerDefer s.hs.held (discardAll (fun _ => true) drainReservation (namesGone (fun _ => true) s))

/-- R142: every per-entry counter is cleared. -/
def clearAllCounters (s : State) : State :=
  s.onFu fun u => { u with counters := Vector.ofFn fun _ => ⟨0, 0, 0, 0⟩ }

/-- R163: the Meter Unit's act. -/
def softResetMeter (s : State) : State :=
  s.onMu fun m =>
    { m with windowCount := 0, pass := none, heldClose := none, rescueList := [],
             entries := Vector.ofFn fun e : EntryIx =>
               clearedMeter (if s.rmu.entries[e].enabled then .normal else .disabled) }

/-- R99: the Grant Wheel's act: pointers to 0, a changeover, and the lanes restarted. -/
def softResetWheel (s : State) : State :=
  let settled := changeover (clearPointers s)
  if LaneName.drain ∈ lanesActive settled ∧ !lanesStopped settled then startLane .drain settled else settled

/-- R182: had the write of the entry that a run has come to been handed to its owner when the Change List Unit takes its
act? It may have or not, and a free value decides (assumption 40). -/
def writeHanded (s : State) : Bool := (Config.freeValue s.freeUsed).getLsbD 0

/-- R182: a write already handed to its owner lands there, and nothing is posted for it by the Change List Unit. -/
def landHanded (x : ListEntry) (s : State) : State :=
  match listKindOf x.kind.toNat with
  | none => s
  | some k => (applyKind k x.target.toNat x.value s).1

/-- R182: what a run under way leaves to land. -/
def landFromRun (run : Option (Fin 32)) (s : State) : State :=
  match run with
  | none => s
  | some p =>
    let landed := if writeHanded s then landHanded s.clu.list[p] s else s
    { landed with freeUsed := landed.freeUsed + 1 }

/-- R182, R183: the Change List Unit's act: the run stops, and a write it has already handed lands. -/
def softResetList (s : State) : State :=
  landFromRun s.clu.run (s.onClu fun c => { c with armed := false, countdown := none, run := none })

/-- R172: the act of a block, by the rule of its chapter. -/
def blockAct : ResetBlock → State → State
  | .hold => softResetHold
  | .wheel => softResetWheel
  | .credit => creditReset
  | .flight => clearAllCounters
  | .meter => softResetMeter
  | .list => softResetList

/-! ### The acts that are due (R173, assumption 47) -/

/-- R173: which of the acts that are due comes next: any of them may, and a free value decides. -/
def nextDue (s : State) : Option ResetBlock :=
  s.mp.resetsDue[(Config.freeValue s.freeUsed).toNat % s.mp.resetsDue.length]?

/-- R172, R173: the next block takes its act, if one is due. -/
def takeAct (s : State) : State :=
  match nextDue s with
  | none => s
  | some b => blockAct b { s.onMp fun m => { m with resetsDue := m.resetsDue.erase b } with freeUsed := s.freeUsed + 1 }

/-- The next so many acts. -/
def takeActs : Nat → State → State
  | 0, s => s
  | n + 1, s => takeActs n (takeAct s)

/-- Every act that is due. -/
def allActs (s : State) : State := takeActs s.mp.resetsDue.length s

/-- R173: some of the acts that are due, none and all included; a free value decides how many. -/
def someActs (s : State) : State :=
  takeActs ((Config.freeValue s.freeUsed).toNat % (s.mp.resetsDue.length + 1)) { s with freeUsed := s.freeUsed + 1 }

/-- With no command waiting, the next act that is due is taken, and the block idles if none is (assumptions 7 and
47). -/
def idle (s : State) : State := if s.powered then takeAct s else s

/-- R173, R184: the meaning of a frame that the Management Port takes whole and answers. Every effect of the frame before
it is in place first, so every act that is due is taken before the frame is. -/
def framed (f : State → State) (s : State) : Host.Outcome State Fault Refusal :=
  whilePowered (fun u => f (allActs u)) s

end Sys2Proof.Machine
end

