-- ==== Sys2Proof/Machine/Management.lean ====
section
/-! DEFINITION. The Management Port's commands (chapter 11): field access, status, the event queue, ARM,
DISARM and GO, INJECT, CLEAR COUNTERS, and the frames with no effect. -/

namespace Sys2Proof.Machine

/-! ### READ FIELD (R150, R186, R187) -/

/-- R150: a READ FIELD of M clears the record's fresh flag in the act that answers it. -/
def readMeasured (e : EntryIx) (s : State) : State :=
  setMeter e (fun m => { m with closing := { m.closing with fresh := false } })
    (answerField .done (.meter e .measured) s)

/-- R187: a READ FIELD of the low part also copies the high part into the counter holding register. -/
def readReleasedLow (e : EntryIx) (s : State) : State :=
  (answerField .done (.counter e .releasedLow) s).onMp fun m =>
    { m with holding := some ⟨e, counterValue s.fu.counters[e] .releasedHigh⟩ }

/-- R187: a READ FIELD of the high part returns the held copy for the held entry and empties the register, and the
live value for any other. -/
def readReleasedHigh (e : EntryIx) (s : State) : State :=
  match s.mp.holding with
  | some h =>
    if h.entry = e then answerNat .done h.high (s.onMp fun m => { m with holding := none })
    else answerField .done (.counter e .releasedHigh) s
  | none => answerField .done (.counter e .releasedHigh) s

/-- R186: a READ FIELD of a named field, with what three of the fields do besides. -/
def readNamed (f : Field) (s : State) : State :=
  match f with
  | .meter e .measured => readMeasured e s
  | .counter e .releasedLow => readReleasedLow e s
  | .counter e .releasedHigh => readReleasedHigh e s
  | f => answerField .done f s

/-- R186: a frame that names no field is answered BAD_TARGET with value 0. -/
def noSuchField (s : State) : State := answerNat .badTarget 0 s

def readAt (table index field : Nat) (s : State) : State :=
  match fieldAt table index field with
  | some f => readNamed f s
  | none => noSuchField s

/-- READ_FIELD. -/
def execReadField (table index field : Byte) (s : State) : Host.Outcome State Fault Refusal :=
  framed (readAt table.toNat index.toNat field.toNat) s

/-- A command on the requester entry its index byte names, if it names one. -/
def onEntry (index : Byte) (f : EntryIx → State → State) (s : State) : State :=
  match finOf 48 index.toNat with
  | some e => f e s
  | none => noSuchField s

/-- READ_M. -/
def execReadM (index : Byte) (s : State) : Host.Outcome State Fault Refusal := framed (onEntry index readMeasured) s

/-- READ_RELEASED_BYTES_LOW. -/
def execReadReleasedBytesLow (index : Byte) (s : State) : Host.Outcome State Fault Refusal :=
  framed (onEntry index readReleasedLow) s

/-- READ_RELEASED_BYTES_HIGH. -/
def execReadReleasedBytesHigh (index : Byte) (s : State) : Host.Outcome State Fault Refusal :=
  framed (onEntry index readReleasedHigh) s

/-! ### WRITE FIELD (R186) -/

/-- R186: a WRITE FIELD is answered with its owner's result and the field as it then stands. -/
def writeNamed (f : Field) (v : Word) (s : State) : State :=
  let r := writeAt f v s
  answerField r.2 f r.1

def writeField (table index field : Nat) (v : Word) (s : State) : State :=
  match fieldAt table index field with
  | some f => writeNamed f v s
  | none => noSuchField s

/-- WRITE_FIELD. -/
def execWriteField (table index field : Byte) (v : Word) (s : State) : Host.Outcome State Fault Refusal :=
  framed (writeField table.toNat index.toNat field.toNat v) s

/-- ENABLE: a write of yes. -/
def execEnable (index : Byte) (s : State) : Host.Outcome State Fault Refusal :=
  framed (onEntry index fun e => writeNamed (.entry e .enabled) 1) s

/-- DISABLE: a write of no. -/
def execDisable (index : Byte) (s : State) : Host.Outcome State Fault Refusal :=
  framed (onEntry index fun e => writeNamed (.entry e .enabled) 0) s

/-- SET_BURST. -/
def execSetBurst (index : Byte) (v : Word) (s : State) : Host.Outcome State Fault Refusal :=
  framed (onEntry index fun e => writeNamed (.entry e .burst) v) s

/-- PORT_EPOCH_BYTES_WRITE. -/
def execPortEpochBytesWrite (v : Word) (s : State) : Host.Outcome State Fault Refusal :=
  framed (writeNamed (.global .portEpochBytes) v) s

/-- PRESSURE_MARK_WRITE. -/
def execPressureMarkWrite (m : PressureMark) (v : Word) (s : State) : Host.Outcome State Fault Refusal :=
  framed (writeNamed (.global (.mark m)) v) s

/-- PACE_DIRECTION_WRITE. -/
def execPaceDirectionWrite (v : Word) (s : State) : Host.Outcome State Fault Refusal :=
  framed (writeNamed (.global .paceDirection) v) s

/-- TRIGGER_SOURCE_WRITE. -/
def execTriggerSourceWrite (v : Word) (s : State) : Host.Outcome State Fault Refusal :=
  framed (writeNamed (.trigger .source) v) s

/-- A write to the change-list entry and field that the frame names, if it names them. -/
def writeListEntry (index field : Byte) (v : Word) (s : State) : State :=
  match finOf 32 index.toNat, listFieldAt field.toNat with
  | some i, some f => writeNamed (.list i f) v s
  | _, _ => noSuchField s

/-- CHANGE_LIST_ENTRY_WRITE. -/
def execChangeListEntryWrite (index field : Byte) (v : Word) (s : State) : Host.Outcome State Fault Refusal :=
  framed (writeListEntry index field v) s

/-- EVENT_MASK_WRITE. -/
def execEventMaskWrite (v : Word) (s : State) : Host.Outcome State Fault Refusal :=
  framed (writeNamed (.global .eventMask) v) s

/-- WHEEL_SETTING_WRITE. -/
def execWheelSettingWrite (f : WheelSetting) (v : Word) (s : State) : Host.Outcome State Fault Refusal :=
  framed (writeNamed (.wheel f) v) s

/-! ### Status and the event queue (R188, R190) -/

def readStatus (pin : Bool) (s : State) : State := answerNat .done (liveStatus pin s) s

/-- READ_STATUS. -/
def execReadStatus (pin : Bool) (s : State) : Host.Outcome State Fault Refusal := framed (readStatus pin) s

/-- R188: bit 11 of the value clears EVENT_LOST; the answer is the live status after the act. -/
def clearStatus (v : Word) (pin : Bool) (s : State) : State :=
  readStatus pin (s.onMp fun m => { m with eventLost := m.eventLost && !v.getLsbD 11 })

/-- CLEAR_STATUS. -/
def execClearStatus (v : Word) (pin : Bool) (s : State) : Host.Outcome State Fault Refusal :=
  framed (clearStatus v pin) s

/-- R190: the head record is removed and answered, and its value becomes the popped value, 0 when it has none. -/
def popEvent (s : State) : State :=
  match s.mp.events with
  | [] => answerNat .refusedState 0 s
  | r :: rest =>
    answerNat .done (recordHead r) (s.onMp fun m => { m with events := rest, popped := r.value.getD 0 })

/-- POP_EVENT. -/
def execPopEvent (s : State) : Host.Outcome State Fault Refusal := framed popEvent s

/-! ### ARM, DISARM and GO (section 10.2) -/

/-- An answer whose value is the change-list activity after the act (section 11.2). -/
def answerActivity (code : AnswerCode) (s : State) : State := answerNat code (activityCode s.clu.run.isSome) s

/-- R178: ARM sets the arm flag and, with source COUNTDOWN, loads and starts the countdown, also one that has reached 0
and whose expiry has not been taken (assumption 13). -/
def arm (s : State) : State :=
  answerActivity .done <| s.onClu fun c =>
    { c with armed := true,
             countdown := if c.source = .countdown then some c.countdownLength else c.countdown }

/-- ARM. -/
def execArm (s : State) : Host.Outcome State Fault Refusal := framed arm s

/-- R178: DISARM clears the arm flag and stops the countdown. -/
def disarm (s : State) : State :=
  answerActivity .done (s.onClu fun c => { c with armed := false, countdown := none })

/-- DISARM. -/
def execDisarm (s : State) : Host.Outcome State Fault Refusal := framed disarm s

/-- R179: GO is a trigger event while the source is GO, and refused otherwise. -/
def go (s : State) : State :=
  if s.clu.source = .go then answerActivity .done (trigger .go s) else answerActivity .refusedState s

/-- GO. -/
def execGo (s : State) : Host.Outcome State Fault Refusal := framed go s

/-! ### INJECT and CLEAR COUNTERS (R142, R159, R187) -/

/-- R185: the measured value of an INJECT frame. -/
def injectedMeasure (v : Word) : Nat := v.toNat % 2 ^ 31

/-- R159: the closing record an INJECT writes. -/
def injectedRecord (v : Word) : ClosingRecord :=
  { released := min (injectedMeasure v) 65535 * 256, measured := min (injectedMeasure v) 65535,
    backlog := v.getLsbD 31, deferrals := 0, windowEpochs := 0, evaluation := .pending, fresh := true }

/-- R159: an accepted INJECT: the record is written and evaluated at once. -/
def injectEntry (e : EntryIx) (v : Word) (s : State) : State :=
  answerNat (storedCode (min (injectedMeasure v) 65535) (injectedMeasure v)) (min (injectedMeasure v) 65535)
    (evaluateEntry e (setMeter e (fun m => { m with closing := injectedRecord v }) s))

/-- R159: INJECT is accepted only in HALTED, for an enabled entry. A refused INJECT answers the M the named entry's
record holds; where no entry is named the manual states no value. -/
def inject (index : Byte) (v : Word) (s : State) : State :=
  match finOf 48 index.toNat with
  | none => answerFree (if s.mp.mode = .halted then .badTarget else .refusedState) s
  | some e =>
    if s.mp.mode ≠ .halted then answerField .refusedState (.meter e .measured) s
    else if s.rmu.entries[e].enabled then injectEntry e v s
    else answerField .badTarget (.meter e .measured) s

/-- INJECT. -/
def execInject (index : Byte) (v : Word) (s : State) : Host.Outcome State Fault Refusal :=
  framed (inject index v) s

/-- R142, R187: every per-entry counter is cleared and the counter holding register is emptied. -/
def clearCounters (s : State) : State :=
  answerNat .done 0
    ((s.onFu fun u => { u with counters := Vector.ofFn fun _ => ⟨0, 0, 0, 0⟩ }).onMp fun m => { m with holding := none })

/-- CLEAR_COUNTERS. -/
def execClearCounters (s : State) : Host.Outcome State Fault Refusal := framed clearCounters s

/-! ### Frames with no effect (R184, R185) -/

/-- UNKNOWN_COMMAND: answered BAD_TARGET with value 0, whatever the code. -/
def execUnknownCommand (_code : Byte) (s : State) : Host.Outcome State Fault Refusal :=
  framed (answerNat .badTarget 0) s

/-- FRAME_ABORT: the frame is discarded and has no effect. -/
def execFrameAbort (s : State) : Host.Outcome State Fault Refusal := .next s

end Sys2Proof.Machine
end

