-- ==== Sys2Proof/Machine/Modes.lean ====
section
/-! DEFINITION. The four mode commands (chapter 9) with what each does at the Grant Wheel (section 5.7), the start-up
fill, power-on reset and SOFT RESET. -/

namespace Sys2Proof.Machine

def setMode (m : Mode) (s : State) : State := s.onMp fun p => { p with mode := m }

/-- R165: a mode command is answered with the mode as it stands after it. -/
def answerMode (code : AnswerCode) (s : State) : State := answerNat code (modeCode s.mp.mode) s

/-! ### ENGAGE (R95) -/

/-- R95: the drain lane's granted release passes to the lane that releases its kind, unless that lane already holds
one. -/
def passDrainGrant (s : State) : State :=
  match grantOf s .drain with
  | none => s
  | some g =>
    let l := laneFor s.gw.appliedSplit g.txn.kind
    if (grantOf s l).isSome then s
    else
      s.onGw fun w => { w with grants := w.grants.map fun x => if x.holder = .drain then { x with holder := l } else x }

/-- R95: ENGAGE at the Grant Wheel: the stored settings are applied, the drain lane becomes inactive and hands on
its release, and each lane of the new arrangement begins. -/
def wheelEngage (s : State) : State :=
  let applied := s.onGw fun g => { g with appliedSplit := g.storedSplit, appliedPacing := g.storedPacing }
  let passed := restLane .drain (passDrainGrant applied)
  [LaneName.read, .write, .shared].foldl (fun t l => settleLane l t) passed

/-- R95, R165: ENGAGE. -/
def engage (s : State) : State :=
  match s.mp.mode with
  | .bypass => answerMode .done (wheelEngage (setMode .regulate s))
  | .regulate => answerMode .refusedState s
  | .halted => answerMode .refusedState s

/-- ENGAGE. -/
def execEngage (s : State) : Host.Outcome State Fault Refusal := framed engage s

/-! ### BYPASS (R96) -/

/-- R96: the drain lane takes the first granted release left in another lane, unless it holds one. -/
def beginTakeOver (s : State) : State := if (grantOf s .drain).isSome then s else drainTakeOver s

/-- R96: BYPASS at the Grant Wheel: the wheel lanes abandon their rounds, the drain lane becomes active and takes
over their releases. R77 does not say whether a changeover that is pending is due once the rounds are abandoned: none is
taken here, and the applied settings stay until a later act takes one (assumption 49, DESIGN CHOICE). -/
def wheelBypass (s : State) : State :=
  let abandoned := [LaneName.read, .write, .shared].foldl (fun t l => restLane l t) s
  beginTakeOver (startLane .drain abandoned)

/-- R96, R165: the BYPASS command. -/
def bypass (s : State) : State :=
  match s.mp.mode with
  | .regulate => answerMode .done (wheelBypass (setMode .bypass s))
  | .bypass => answerMode .refusedState s
  | .halted => answerMode .refusedState s

/-- BYPASS. -/
def execBypass (s : State) : Host.Outcome State Fault Refusal := framed bypass s

/-! ### HALT and RESUME (R97) -/

/-- R97: HALT at the Grant Wheel: an active lane that holds no granted release enters STOPPED. -/
def wheelHalt (s : State) : State :=
  (lanesActive s).foldl (fun t l => if (grantOf t l).isSome then t else stopLane l t) s

/-- R97, R165: HALT from a mode. -/
def haltFrom (m : RunMode) (s : State) : State :=
  answerMode .done (wheelHalt (setMode .halted (s.onMp fun p => { p with remembered := m })))

/-- R97, R165: HALT. -/
def halt (s : State) : State :=
  match s.mp.mode with
  | .bypass => haltFrom .bypass s
  | .regulate => haltFrom .regulate s
  | .halted => answerMode .refusedState s

/-- HALT. -/
def execHalt (s : State) : Host.Outcome State Fault Refusal := framed halt s

/-- R164: the mode that a remembered mode names. -/
def modeOf : RunMode → Mode
  | .bypass => .bypass
  | .regulate => .regulate

/-- R80: both split lanes are in a round and stand at one pair. -/
def inStep (s : State) : Bool :=
  (s.gw.lanes.get .read).motion == .walking && (s.gw.lanes.get .write).motion == .walking
    && (s.gw.lanes.get .write).slot.val == (s.gw.lanes.get .read).slot.val + 8

/-- R80, R97, R99: under SPLIT_LOCKED a lane that kept its granted release over a HALT begins the round together with
its partner, unless both kept theirs and stand at one pair: the partner may have been STOPPED, or a soft reset may have
applied SPLIT_LOCKED to lanes that went at their own speed. Under PACED no round begins: the lane is taken out of the
round it was in and rests in IDLE once its release has begun (`startLane`, `laneBegun`), so that both wait for the next
expiry. (Both are assumption 12, DESIGN CHOICE.) -/
def rejoinPair (s : State) : State :=
  if s.gw.appliedSplit = .splitLocked ∧ inStep s = false then
    ((wheelLanes s).filter fun l => (s.gw.lanes.get l).motion == .walking).foldl (fun t l => startLane l t) s
  else s

/-- R97: an active wheel lane that reads WAITING_LINK with no round under way begins one in WAITING_LINK, or, under
PACED, stays as it is (assumption 37). -/
def resumeWaiting (s : State) : State :=
  ((wheelLanes s).filter fun l => (grantOf s l).isSome && (s.gw.lanes.get l).motion == .idle).foldl
    (fun t l => startLane l t) s

/-- R97: RESUME at the Grant Wheel. While the downstream link is down the lanes stay STOPPED. A lane that holds its
release with no round under way begins its round before it is asked whether a changeover is due, so that a changeover is
not due then and waits for the end of that round (assumption 37, DESIGN CHOICE of this order). -/
def wheelResume (s : State) : State :=
  if s.dp.linkUp then startLanes (resumeWaiting (rejoinPair s)) else s

/-- R97, R165: RESUME. -/
def resume (s : State) : State :=
  match s.mp.mode with
  | .halted => answerMode .done (wheelResume (setMode (modeOf s.mp.remembered) s))
  | .bypass => answerMode .refusedState s
  | .regulate => answerMode .refusedState s

/-- RESUME. -/
def execResume (s : State) : Host.Outcome State Fault Refusal := framed resume s

/-! ### Power-on reset and the start-up fill (R167, R168, R191) -/

/-- R167: PORn rises: every piece of state takes its power-on value. The commands that wait and the count of free
values are the model's own and are kept. -/
def powerOnReset (strapHigh : Bool) (s : State) : State :=
  { State.powerOn strapHigh with pending := s.pending, freeUsed := s.freeUsed }

/-- POWER_ON_RESET. -/
def execPowerOnReset (strapHigh : Bool) (s : State) : Host.Outcome State Fault Refusal :=
  .next (powerOnReset strapHigh s)

/-- R191, section 9.3: while PORn is low the links are down and PACE drives nothing; ALERT reads deasserted, and no
event is taken until PORn rises and every piece of state takes its power-on value. -/
def powerFalls (s : State) : State :=
  { s with
    powered := false,
    up := { s.up with linkUp := false, headerCredits := 0, dataCredits := 0, headerAdvertised := 0,
                      dataAdvertised := 0 },
    dp := { s.dp with linkUp := false, headerCredits := 0, dataCredits := 0, headerAdvertised := 0,
                      dataAdvertised := 0 },
    mp := { s.mp with pulse := false } }

/-- POWER_ON_RESET_ASSERTED. -/
def execPowerOnResetAsserted (s : State) : Host.Outcome State Fault Refusal := .next (powerFalls s)

/-- R168: the fill ends: READY is set, and the credits are advertised if the upstream link is up. -/
def fillEnds (s : State) : State :=
  if s.mp.ready then s
  else
    let ready := s.onMp fun m => { m with ready := true }
    if s.up.linkUp then advertiseUp ready else ready

/-- START_UP_FILL_END. -/
def execStartUpFillEnd (s : State) : Host.Outcome State Fault Refusal := whilePowered fillEnds s

/-! ### SOFT RESET (R172) -/

/-- R172, R192: the Management Port's own act. -/
def softResetPort (s : State) : State := s.onMp fun m => { m with events := [], holding := none }

/-- R172: the Management Port hands the reset to every block that takes an act of its own. -/
def handReset (s : State) : State :=
  s.onMp fun m => { m with resetsDue := [.hold, .wheel, .credit, .flight, .meter, .list] }

/-- R172: SOFT RESET. What a block posts as part of its act reaches the event queue before the Management Port's own
act, and is emptied with the rest, or after it: some acts come before that in the same step, some after it in the same
step, and the others are still due (R173, assumption 47). The answer is formed here and is ready once none is due (R184:
`serialNext`). -/
def softReset (pin : Bool) (s : State) : State :=
  let done := someActs (softResetPort (someActs (handReset s)))
  answerNat .done (liveStatus pin done) done

/-- SOFT_RESET. -/
def execSoftReset (pin : Bool) (s : State) : Host.Outcome State Fault Refusal := framed (softReset pin) s

end Sys2Proof.Machine
end

