-- ==== Sys2Proof/Machine/Dispatch.lean ====
section
/-! DEFINITION. The meaning of each command: one arm per constructor of Instr. -/

namespace Sys2Proof.Machine

def exec (i : Instr) (s : State) : Host.Outcome State Fault Refusal :=
  match i with
  | .upHeaderArrival h => Sys2Proof.Machine.execUpHeaderArrival h s
  | .upBeatArrival b => Sys2Proof.Machine.execUpBeatArrival b s
  | .upEndMark => Sys2Proof.Machine.execUpEndMark s
  | .requesterAbort => Sys2Proof.Machine.execRequesterAbort s
  | .switchCreditGrant headers beats => Sys2Proof.Machine.execSwitchCreditGrant headers beats s
  | .memoryCreditGrant headers beats => Sys2Proof.Machine.execMemoryCreditGrant headers beats s
  | .disposition => Sys2Proof.Machine.execDisposition s
  | .responseHeaderArrival h => Sys2Proof.Machine.execResponseHeaderArrival h s
  | .responseBeatArrival b => Sys2Proof.Machine.execResponseBeatArrival b s
  | .upResponseSend => Sys2Proof.Machine.execUpResponseSend s
  | .upLinkDown => Sys2Proof.Machine.execUpLinkDown s
  | .upLinkUp => Sys2Proof.Machine.execUpLinkUp s
  | .downLinkDown => Sys2Proof.Machine.execDownLinkDown s
  | .downLinkUp => Sys2Proof.Machine.execDownLinkUp s
  | .powerOnReset strapHigh => Sys2Proof.Machine.execPowerOnReset strapHigh s
  | .startUpFillEnd => Sys2Proof.Machine.execStartUpFillEnd s
  | .epochTimerExpiry => Sys2Proof.Machine.execEpochTimerExpiry s
  | .pacePulseEnd => Sys2Proof.Machine.execPacePulseEnd s
  | .paceEdge => Sys2Proof.Machine.execPaceEdge s
  | .refillLanding => Sys2Proof.Machine.execRefillLanding s
  | .refillPassEnd => Sys2Proof.Machine.execRefillPassEnd s
  | .entryEvaluation => Sys2Proof.Machine.execEntryEvaluation s
  | .slotVisit lane => Sys2Proof.Machine.execSlotVisit lane s
  | .slotPairStep => Sys2Proof.Machine.execSlotPairStep s
  | .drainSearch => Sys2Proof.Machine.execDrainSearch s
  | .packetBegin => Sys2Proof.Machine.execPacketBegin s
  | .dpUnitSend => Sys2Proof.Machine.execDpUnitSend s
  | .responseTimerExpiry requesterId tag => Sys2Proof.Machine.execResponseTimerExpiry requesterId tag s
  | .underrun => Sys2Proof.Machine.execUnderrun s
  | .readField table index field => Sys2Proof.Machine.execReadField table index field s
  | .readM index => Sys2Proof.Machine.execReadM index s
  | .readReleasedBytesLow index => Sys2Proof.Machine.execReadReleasedBytesLow index s
  | .readReleasedBytesHigh index => Sys2Proof.Machine.execReadReleasedBytesHigh index s
  | .writeField table index field value => Sys2Proof.Machine.execWriteField table index field value s
  | .enable index => Sys2Proof.Machine.execEnable index s
  | .disable index => Sys2Proof.Machine.execDisable index s
  | .setBurst index value => Sys2Proof.Machine.execSetBurst index value s
  | .portEpochBytesWrite value => Sys2Proof.Machine.execPortEpochBytesWrite value s
  | .pressureMarkWrite mark value => Sys2Proof.Machine.execPressureMarkWrite mark value s
  | .paceDirectionWrite value => Sys2Proof.Machine.execPaceDirectionWrite value s
  | .triggerSourceWrite value => Sys2Proof.Machine.execTriggerSourceWrite value s
  | .changeListEntryWrite index field value => Sys2Proof.Machine.execChangeListEntryWrite index field value s
  | .eventMaskWrite value => Sys2Proof.Machine.execEventMaskWrite value s
  | .wheelSettingWrite setting value => Sys2Proof.Machine.execWheelSettingWrite setting value s
  | .readStatus pacePin => Sys2Proof.Machine.execReadStatus pacePin s
  | .clearStatus value pacePin => Sys2Proof.Machine.execClearStatus value pacePin s
  | .popEvent => Sys2Proof.Machine.execPopEvent s
  | .engage => Sys2Proof.Machine.execEngage s
  | .bypass => Sys2Proof.Machine.execBypass s
  | .halt => Sys2Proof.Machine.execHalt s
  | .resume => Sys2Proof.Machine.execResume s
  | .softReset pacePin => Sys2Proof.Machine.execSoftReset pacePin s
  | .arm => Sys2Proof.Machine.execArm s
  | .disarm => Sys2Proof.Machine.execDisarm s
  | .go => Sys2Proof.Machine.execGo s
  | .inject index value => Sys2Proof.Machine.execInject index value s
  | .clearCounters => Sys2Proof.Machine.execClearCounters s
  | .unknownCommand code => Sys2Proof.Machine.execUnknownCommand code s
  | .frameAbort => Sys2Proof.Machine.execFrameAbort s
  | .countdownExpiry => Sys2Proof.Machine.execCountdownExpiry s
  | .changeListApply => Sys2Proof.Machine.execChangeListApply s
  | .responseMarkArrival m => Sys2Proof.Machine.execResponseMarkArrival m s
  | .powerOnResetAsserted => Sys2Proof.Machine.execPowerOnResetAsserted s

end Sys2Proof.Machine
end

