-- ==== Sys2Proof/Machine/Serial.lean ====
section
/-! DEFINITION. The serial port's four wires (R184, section 11.1): how edges of MSEL and MCK make the frame that becomes
one management command, and the level of MDO. The wires are the controller's, so the place a frame has come to is no field
of State and is given to these functions (assumption 30). -/

namespace Sys2Proof.Machine

/-- R184: the place the port has come to in a frame. -/
inductive SerialPhase where
  /-- MSEL is high: no frame. -/
  | deselected
  /-- MSEL is low and these bits, fewer than 64, have been sampled, the first one first. -/
  | sampling (bits : List Bool)
  /-- The eighth byte has been sampled and the command's work is under way. -/
  | working
  /-- The answer is ready and so many falling edges of MCK have come since. -/
  | answering (shifted : Nat)
deriving DecidableEq, Repr

/-- R184: what happens on the wires, the fall of PORn, and the end of a command's work. -/
inductive SerialEvent where
  | pornFalls
  | mselFalls
  | mselRises
  | mckRises (mdi : Bool)
  | mckFalls
  /-- The time has come for the answer, if every block that the command was handed to has taken its act. -/
  | answerReady
deriving DecidableEq, Repr

/-- Section 11.1: the bits of a frame in one word, the first sampled most significant. -/
def wordOfSampled (bits : List Bool) : BitVec 64 := BitVec.ofNat 64 (bits.foldl (fun n b => 2 * n + b.toNat) 0)

/-- R184: the next place in the frame. MCK edges while MSEL is high are ignored. The work of a SOFT RESET is under way
until no act of it is due, and only then is its answer ready (the work of every other command is one step). A fall of PORn
ends a frame under way, and while PORn is low the port takes none: it takes one again at the next fall of MSEL (assumption
30, DESIGN CHOICE: the manual is silent on such a frame). -/
def serialNext (s : State) (ev : SerialEvent) (p : SerialPhase) : SerialPhase :=
  if s.powered = false then .deselected
  else
    match ev, p with
    | .pornFalls, _ => .deselected
    | .mselRises, _ => .deselected
    | .mselFalls, .deselected => .sampling []
    | .mckRises b, .sampling bits => if bits.length < 63 then .sampling (bits ++ [b]) else .working
    | .answerReady, .working => if s.mp.resetsDue = [] then .answering 0 else .working
    | .mckFalls, .answering n => .answering (n + 1)
    | .mselFalls, q => q
    | .mckRises _, q => q
    | .answerReady, q => q
    | .mckFalls, q => q

/-- R184: the command the port takes at an event: the frame's at the last bit of its eighth byte, and the discard of a
frame in which MSEL rises before that. -/
def serialCommand (s : State) (pin : Bool) (ev : SerialEvent) (p : SerialPhase) : Option Instr :=
  if s.powered = false then none
  else
    match ev, p with
    | .mckRises b, .sampling bits =>
      if bits.length < 63 then none else some (frameCommand pin (frameOfBits (wordOfSampled (bits ++ [b]))))
    | .mselRises, .sampling _ => some .frameAbort
    | _, _ => none

/-- R184: the level on MDO, none while it is not driven: not while MSEL is high; low while the command's work is under
way; high once the answer is ready; then the answer's bits, each from its falling edge of MCK on. -/
def mdoLevel (p : SerialPhase) (s : State) : Option Bool :=
  match p with
  | .deselected => none
  | .sampling _ => some (Config.freeLevel s.freeUsed)
  | .working => some false
  | .answering 0 => some true
  | .answering (n + 1) =>
    match s.mp.answer with
    | some a => some (if n < 40 then (answerBits a).getMsbD n else Config.freeLevel s.freeUsed)
    | none => some (Config.freeLevel s.freeUsed)

end Sys2Proof.Machine
end

