-- ==== Sys2Proof/Safety.lean ====
section
/-! DEFINITION. What holds of the part at every moment, in the terms the statements use: each predicate is one law
the manual states of the whole part. -/

namespace Sys2Proof.Machine

/-! ### Configuration (R21, R30, R51, R100, R105, R126, R144, R177) -/

/-- R21: an entry's numbers lie in their ranges. -/
abbrev EntryInRange (c : EntryConfig) : Prop :=
  c.floor ≤ 65535 ∧ c.ceiling ≤ 65535 ∧ c.weight ≤ 255 ∧ c.burst ≤ 65535 ∧ c.pinnedRefill ≤ 65535 ∧ c.quota ≤ 64
    ∧ 1 ≤ c.flightCap ∧ c.flightCap ≤ 64 ∧ c.lowLimit ≤ 65535 ∧ c.highLimit ≤ 65535 ∧ c.offset ≤ 65535

/-- R30: a start mark is one of four values. -/
abbrev StartMarkLegal (r : ClassRecord) : Prop :=
  r.startMark = 64 ∨ r.startMark = 128 ∨ r.startMark = 256 ∨ r.startMark = 512

/-- R21, R22, R30: every entry in range, entry 0 enabled, every start mark legal. -/
abbrev TableLaw (s : State) : Prop :=
  (∀ e : EntryIx, EntryInRange s.rmu.entries[e]) ∧ s.rmu.entries[(0 : EntryIx)].enabled = true
    ∧ (∀ c : SvcClass, StartMarkLegal (s.rmu.classes.get c))

/-- R51, R100, R105, R126, R144, R177, R186: every global setting in range. -/
abbrev SettingsLaw (s : State) : Prop :=
  (s.hs.descriptorLow ≤ 512 ∧ s.hs.descriptorHigh ≤ 512 ∧ s.hs.cellLow ≤ 256 ∧ s.hs.cellHigh ≤ 256)
    ∧ (1 ≤ s.ce.epochPeriod ∧ s.ce.epochPeriod ≤ 4095)
    ∧ (1 ≤ s.ce.portEpochBytes ∧ s.ce.portEpochBytes ≤ 262143)
    ∧ s.ce.penaltyScale ≤ 256 ∧ (256 ≤ s.ce.rescueScale ∧ s.ce.rescueScale ≤ 512)
    ∧ (1 ≤ s.ce.readFactor ∧ s.ce.readFactor ≤ 1023) ∧ (1 ≤ s.ce.writeFactor ∧ s.ce.writeFactor ≤ 1023)
    ∧ s.fu.responseTimeout ≤ 65535
    ∧ (1 ≤ s.mu.windowLength ∧ s.mu.windowLength ≤ 255) ∧ (1 ≤ s.mu.overDeclare ∧ s.mu.overDeclare ≤ 255)
    ∧ (1 ≤ s.mu.overClear ∧ s.mu.overClear ≤ 255) ∧ (1 ≤ s.mu.starveDeclare ∧ s.mu.starveDeclare ≤ 255)
    ∧ (1 ≤ s.mu.starveClear ∧ s.mu.starveClear ≤ 255)
    ∧ (1 ≤ s.clu.countdownLength ∧ s.clu.countdownLength ≤ 65535)
    ∧ s.mp.eventMask &&& ~~~maskBits = 0

/-! ### Credit (R104, R105, R113) -/

/-- R104: an enabled entry's balance lies between −16496 and its burst cap; a disabled entry's is 0. The factors
lie in their range (R105), or a charge could pass the bound. -/
abbrev BalanceLaw (s : State) : Prop :=
  s.ce.readFactor ≤ 1023 ∧ s.ce.writeFactor ≤ 1023 ∧
    ∀ e : EntryIx,
      if s.rmu.entries[e].enabled then
        -16496 ≤ s.ce.records[e].balance ∧ s.ce.records[e].balance ≤ (s.rmu.entries[e].burst : Int)
      else s.ce.records[e].balance = 0

/-- R113: the lent pool never exceeds PORT_EPOCH_BYTES. -/
abbrev LentLaw (s : State) : Prop := s.ce.lent ≤ s.ce.portEpochBytes

/-- R106, R112: the snapshot of a running pass holds each entry of the enabled set once, in index order. -/
abbrev PassLaw (s : State) : Prop := ∀ p ∈ s.ce.pass, (p.snapshot.rows.map (·.entry)).Pairwise (· < ·)

/-! ### Meter (R141, R147, R154, R158) -/

/-- R157, R158: an entry reads DISABLED exactly when it is not enabled; the rescue list holds each STARVED entry
exactly once and no other. -/
abbrev RescueLaw (s : State) : Prop :=
  (∀ e : EntryIx, s.rmu.entries[e].enabled = false ↔ s.mu.entries[e].state = .disabled)
    ∧ s.mu.rescueList.Nodup ∧ (∀ e : EntryIx, e ∈ s.mu.rescueList ↔ s.mu.entries[e].state = .starved)

/-- R141, R145, R147, R149, R154: every counter and accumulator stays within its range. -/
abbrev CounterLaw (s : State) : Prop :=
  (∀ e : EntryIx,
      s.fu.counters[e].released < 2 ^ 40 ∧ s.fu.counters[e].deferrals < 2 ^ 32
        ∧ s.fu.counters[e].refusals < 2 ^ 32 ∧ s.fu.counters[e].timeouts < 2 ^ 32)
    ∧ (∀ e : EntryIx,
      s.mu.entries[e].released < 2 ^ 32 ∧ s.mu.entries[e].deferrals ≤ 65535
        ∧ s.mu.entries[e].closing.released < 2 ^ 32 ∧ s.mu.entries[e].closing.measured ≤ 65535
        ∧ s.mu.entries[e].closing.deferrals ≤ 65535 ∧ s.mu.entries[e].closing.windowEpochs ≤ 255
        ∧ s.mu.entries[e].overCount ≤ 255 ∧ s.mu.entries[e].starveCount ≤ 255 ∧ s.mu.entries[e].clearCount ≤ 255)
    ∧ s.mu.windowCount ≤ 255 ∧ (∀ n ∈ s.mu.heldClose, n ≤ 255)

/-! ### Pools, pairs, fences (R37, R39, R45, R59, R66) -/

/-- R37, R39, R40: at most 512 descriptors in use, each of its own number; no cell reserved twice; a write's
reservation has the cells its length takes and no more bytes than its length. -/
abbrev PoolLaw (s : State) : Prop :=
  (s.hs.held.map (·.number)).Nodup ∧ (∀ d ∈ s.hs.held, d.number < Config.descriptors)
    ∧ (reservedCells s.hs).Nodup ∧ (∀ c ∈ reservedCells s.hs, c < Config.cells)
    ∧ (∀ r ∈ s.hs.reservations, r.cells.length = cellsFor (txnLength r.txn) ∧ r.received ≤ txnLength r.txn)

/-- R59: a reservation whose two ends are both finished has been deleted. -/
abbrev FreedLaw (s : State) : Prop := ∀ r ∈ s.hs.reservations, finished r = false

/-- The writes that have not ended downstream, by their first cells: held, granted and being sent. -/
def writeCells (s : State) : List Nat :=
  s.hs.held.filterMap (·.cells) ++ s.gw.grants.filterMap (·.cells) ++ (s.dp.sending.map (·.cells)).toList

/-- The reservation that begins at a cell stands, and this holds of it. -/
abbrev reservationMeets (s : State) (cell : Nat) (f : Reservation → Bool) : Prop := (reservationAt s cell).any f = true

/-- R40, R57, R59: each write that has not ended downstream has a reservation of its own: RECEIVING or COMPLETE and
PENDING while the write is held, PENDING while it is granted, SENDING while it is sent. -/
abbrev WriteLaw (s : State) : Prop :=
  (writeCells s).Nodup
    ∧ (∀ d ∈ s.hs.held, ∀ c ∈ d.cells, reservationMeets s c fun r =>
        (r.data == .receiving || r.data == .complete) && r.transmission == .pending)
    ∧ (∀ g ∈ s.gw.grants, ∀ c ∈ g.cells, reservationMeets s c (·.transmission == .pending))
    ∧ (∀ p ∈ s.dp.sending, reservationMeets s p.cells (·.transmission == .sending))

/-- The requester id and tag a transaction carries. -/
def pairOf (t : Txn) : ReqId × Tag := (t.requesterId, t.tag)

/-- The pairs in use: those of the held descriptors and of the flight entries (R45). -/
def pairsInUse (s : State) : List (ReqId × Tag) :=
  s.hs.held.map (fun d => pairOf d.txn) ++ s.fu.table.map (fun f => pairOf f.txn)

/-- R45, R123: no two held descriptors or flight entries share a requester id and tag; at most 256 flight entries. -/
abbrev PairLaw (s : State) : Prop := (pairsInUse s).Nodup ∧ s.fu.table.length ≤ Config.flightPlaces

/-- R66: of two held transactions, `t` may be the target of a fence on `d`. -/
abbrev mayFence (t d : Descriptor) : Prop :=
  t.entry = d.entry ∧ t.txn.kind ≠ d.txn.kind ∧ overlap t.txn d.txn = true

/-- R66: every fence of a held transaction has its target among those held before it. -/
def fencesOk (before : List Descriptor) : List Descriptor → Bool
  | [] => true
  | d :: rest =>
    (match d.fence with
     | none => true
     | some n => before.any fun t => t.number == n && decide (mayFence t d)) && fencesOk (before ++ [d]) rest

/-- R66: descriptors have numbers of their own, and each fence joins a transaction to one held before it, of the
same entry and the other kind, with an overlapping span. -/
abbrev FenceLaw (s : State) : Prop := (s.hs.held.map (·.number)).Nodup ∧ fencesOk [] s.hs.held = true

/-- R67, R70: each held transaction is fenced on the youngest held before it that it may be fenced on, and on none when
there is none. -/
def fencesYoungest (before : List Descriptor) : List Descriptor → Bool
  | [] => true
  | d :: rest =>
    decide (d.fence = ((before.filter fun t => decide (mayFence t d)).getLast?).map (·.number))
      && fencesYoungest (before ++ [d]) rest

/-- R67, R69, R70: a held transaction with an older one of its entry and the other kind still held that overlaps it is
fenced, on the youngest such one; one with none is not fenced. -/
abbrev YoungestFenceLaw (s : State) : Prop := fencesYoungest [] s.hs.held = true

/-! ### Lanes, ports, queue, memory -/

/-- R73: each lane holds at most one granted release. -/
abbrev GrantLaw (s : State) : Prop := (s.gw.grants.map (·.holder)).Nodup

/-- R9, R10: the arrival queue and the response buffer hold no more than their places. -/
abbrev PlacesLaw (s : State) : Prop :=
  s.up.queue.length ≤ Config.arrivalPlaces ∧ queuedBeats s.up ≤ Config.arrivalBeatPlaces
    ∧ headerPlacesTaken s.dp ≤ Config.responseHeaderPlaces ∧ beatPlacesTaken s.dp ≤ Config.responseBeatPlaces

/-- R189: the event queue holds at most 32 records. -/
abbrev EventLaw (s : State) : Prop := s.mp.events.length ≤ Config.eventPlaces

/-- The content of the data cells is in its one canonical form. -/
abbrev MemoryLaw (s : State) : Prop := memoryWf s.hs.bytes = true

/-! ### The release (R90) -/

/-- R48, R51, R58, R69, R82, R90, R93, R114, R124, R141, R147: `t` is what lane `l`'s release of the held transaction
`d` makes of `s`, apart from the rotation pointers: `d` leaves its list and the fences on it lift, pressure is
evaluated on the counts after it, a stalled head's retry becomes due, its entry is charged (never by the drain lane),
its length is added to the open window and to the released bytes counter, a flight entry is recorded, the lane holds
the granted release, and each lifted fence is a wake for the other lanes. -/
abbrev Released (l : LaneName) (d : Descriptor) (s t : State) : Prop :=
  let length := txnLength d.txn
  let factor := match d.txn.kind with
    | .read => s.ce.readFactor
    | .write => s.ce.writeFactor
  let record := s.ce.records[d.entry]
  let freed := { s.hs with held := (s.hs.held.filter (·.number != d.number)).map fun x =>
                             if x.fence = some d.number then { x with fence := none } else x }
  let judged := evaluatePressure { s with hs := freed }
  let lifts := s.hs.held.countP fun x => x.fence == some d.number
  t.hs = { freed with pressureOn := judged.hs.pressureOn, retryDue := s.hs.retryDue || s.hs.stalled }
    ∧ t.mp = judged.mp
    ∧ t.gw.lanes.get l = { s.gw.lanes.get l with released := true }
    ∧ (∀ k, k ≠ l → t.gw.lanes.get k = (wakes lifts s).gw.lanes.get k)
    ∧ t.ce = { s.ce with
               records :=
                 if l = .drain then s.ce.records
                 else s.ce.records.set d.entry
                   { record with balance := record.balance - (((length + 32) * factor + 255) / 256 : Nat) } }
    ∧ t.mu = { s.mu with
               entries := s.mu.entries.set d.entry
                 { s.mu.entries[d.entry] with
                   released := min (2 ^ 32 - 1) (s.mu.entries[d.entry].released + length) } }
    ∧ t.fu = { s.fu with
               table := s.fu.table ++ [⟨d.txn, d.entry, .granted, none, false⟩],
               counters := s.fu.counters.set d.entry
                 { s.fu.counters[d.entry] with
                   released := min (2 ^ 40 - 1) (s.fu.counters[d.entry].released + length) } }
    ∧ t.gw.grants = s.gw.grants ++ [⟨l, d.entry, d.txn, d.cells, false⟩]
    ∧ t.gw.slots = s.gw.slots ∧ t.gw.storedSplit = s.gw.storedSplit ∧ t.gw.storedPacing = s.gw.storedPacing
    ∧ t.gw.appliedSplit = s.gw.appliedSplit ∧ t.gw.appliedPacing = s.gw.appliedPacing
    ∧ t.up = s.up ∧ t.dp = s.dp ∧ t.rmu = s.rmu ∧ t.clu = s.clu ∧ t.pending = s.pending ∧ t.freeUsed = s.freeUsed
    ∧ (∀ a : Nat, readByte t.hs.bytes a = readByte s.hs.bytes a)

/-! ### Changeovers and lanes that begin (R77, R95 to R99) -/

/-- R77: the stored split or pacing differs from the applied one. -/
abbrev Differ (s : State) : Prop := s.gw.storedSplit ≠ s.gw.appliedSplit ∨ s.gw.storedPacing ≠ s.gw.appliedPacing

/-- R77: a changeover is due: the settings differ and every active lane that walks slots is between rounds. -/
abbrev ChangeoverDue (s : State) : Prop := Differ s ∧ ∀ l ∈ wheelLanes s, (s.gw.lanes.get l).motion ≠ .walking

/-- R79, R82, R95, R99: a lane at the beginning of a round: at the first slot of its walk, still to arrive there, or, if
it holds a granted release, with its visit there to be done when that begins. -/
abbrev begunLane (l : LaneName) (holds : Bool) : Lane :=
  { motion := .walking, slot := firstSlot l, phase := if holds then .done else .arrive, released := holds,
    woken := false, held := false }

/-- R77, R78, R95 to R99: `t`'s wheel is what a changeover makes of `s`'s: the stored settings are applied; each lane
of the new arrangement begins as its pacing gives, a round at its first slot or a wait in IDLE, or is STOPPED while the
regulator is HALTED or the link is down, unless it keeps a granted release then; a lane outside the arrangement rests; and
no lane waits for a changeover any more. The drain lane is as it was. -/
abbrev ChangedOver (s t : State) : Prop :=
  t.gw = { s.gw with lanes := t.gw.lanes, appliedSplit := s.gw.storedSplit, appliedPacing := s.gw.storedPacing }
    ∧ t.gw.lanes.drain = s.gw.lanes.drain
    ∧ (∀ l, l ≠ .drain →
        let lane := { s.gw.lanes.get l with held := false }
        let holds := (grantOf s l).isSome
        t.gw.lanes.get l
          = if l ∈ activeLanes (effectiveMode s) s.gw.storedSplit then
              if s.mp.mode = .halted ∨ s.dp.linkUp = false then
                if holds = true then lane else { lane with motion := .stopped }
              else if s.gw.storedPacing = .paced then { lane with motion := .idle } else begunLane l holds
            else { lane with motion := .idle })

/-- R97, R98: `t`'s wheel is what becomes of `s`'s as RESUME or the link coming up begins its lanes: a changeover that is
due is taken first, and every active lane that is STOPPED then begins, the drain lane searching, unless the regulator is
HALTED. -/
abbrev LanesStarted (s t : State) : Prop :=
  let x := s.gw.lanes.drain
  (ChangeoverDue s → ChangedOver s { t with gw := { t.gw with lanes := { t.gw.lanes with drain := x } } })
    ∧ (¬ ChangeoverDue s →
        t.gw = { s.gw with lanes := t.gw.lanes }
          ∧ (∀ l, l ≠ .drain →
              t.gw.lanes.get l
                = if l ∈ lanesActive s ∧ (s.gw.lanes.get l).motion = .stopped ∧ s.mp.mode ≠ .halted then
                    if s.gw.appliedPacing = .paced then { s.gw.lanes.get l with motion := .idle }
                    else begunLane l (grantOf s l).isSome
                  else s.gw.lanes.get l))
    ∧ t.gw.lanes.drain
      = if .drain ∈ lanesActive s ∧ x.motion = .stopped ∧ s.mp.mode ≠ .halted then { x with motion := .walking } else x

/-! ### The acts of a soft reset (R173) -/

/-- R173: no block has still to take its act of a soft reset. -/
abbrev Settled (s : State) : Prop := s.mp.resetsDue = []

/-! ### Who changes what -/

/-- R20, R182: the commands that may change configuration: the writes, the change-list run, power-on reset, and a soft
reset, with which an entry's write handed before it may land (assumption 40). -/
def mayConfigure (c : Instr) : Bool :=
  match c with
  | .writeField _ _ _ _ | .enable _ | .disable _ | .setBurst _ _ | .portEpochBytesWrite _ | .pressureMarkWrite _ _
  | .paceDirectionWrite _ | .triggerSourceWrite _ | .changeListEntryWrite _ _ _ | .eventMaskWrite _
  | .wheelSettingWrite _ _ | .changeListApply | .powerOnReset _ | .softReset _ => true
  | .upHeaderArrival _ | .upBeatArrival _ | .upEndMark | .requesterAbort | .switchCreditGrant _ _
  | .memoryCreditGrant _ _ | .disposition | .responseHeaderArrival _ | .responseBeatArrival _ | .upResponseSend
  | .upLinkDown | .upLinkUp | .downLinkDown | .downLinkUp | .startUpFillEnd | .epochTimerExpiry | .pacePulseEnd
  | .paceEdge | .refillLanding | .refillPassEnd | .entryEvaluation | .slotVisit _ | .slotPairStep | .drainSearch
  | .packetBegin | .dpUnitSend | .responseTimerExpiry _ _ | .underrun | .readField _ _ _ | .readM _
  | .readReleasedBytesLow _ | .readReleasedBytesHigh _ | .readStatus _ | .clearStatus _ _ | .popEvent | .engage
  | .bypass | .halt | .resume | .arm | .disarm | .go | .inject _ _ | .clearCounters
  | .unknownCommand _ | .frameAbort | .countdownExpiry | .responseMarkArrival _ | .powerOnResetAsserted => false

/-- A safe run: the machine takes steps and never stops. -/
abbrev StepsOn (s : State) : Prop := ∃ t, step s = .next t

end Sys2Proof.Machine
end

