-- ==== Sys2Proof/Certificates/Slice0/Obligations.lean ====
section
/-! DEFINITION. What the provers are asked to prove: each statement says what a command or the whole part does, in the
words of the manual's rules. A name such as `postEvent`, `wake` or `evaluatePressure` in a conclusion stands for a
shared act whose own meaning another statement gives. `Settled s` says that no act of a soft reset is due (assumption 47),
as is so but after a SOFT_RESET; that a frame takes those it finds due first is said in SoftResetKeepsModeAndConfiguration. -/

open Sys2Proof Sys2Proof.Machine

/-! ### The step, power-on, the layouts -/

/-- One step takes the command at the front of the queue and runs it on the state with the rest of the queue, and no
command and no empty queue ever stops the part. -/
def Obligations.StepTakesTheFrontCommand : Prop :=
  (∀ (s : State) (c : Instr) (rest : List Instr), s.pending = c :: rest → step s = exec c { s with pending := rest })
    ∧ (∀ s : State, StepsOn s)

/-- With no command waiting and no act of a soft reset due the part idles (assumptions 7 and 47), and no word of the
opcode table spells a command, since the table gives bits to no row (assumption 8): both are the model's own choices.
-/
def Obligations.EmptyQueueIdlesAndNoWordSpells : Prop :=
  (∀ s : State, s.pending = [] → Settled s ∨ s.powered = false → step s = .next s)
    ∧ (∀ (s : State) (nbits w : Nat), decodeTableWord nbits w = none ∧ s.withFetchWord nbits w = s)

/-- R167, R191: PORn rising gives every piece of state its power-on value, whatever it was; PORn falling takes both
links down, drives nothing on PACE and leaves ALERT deasserted. (What is kept while PORn is low: assumption 10.) The
values: R7 to R14, R16, R23, R30, R37 to R41, R51, R60, R76, R77, R86, R99, R100, R105, R122, R126, R141, R144, R149,
R153, R154, R161, R167, R170, R175, R177, R178, R183, R192, by the level of the MODE strap. (The model's own values,
which the manual does not give: every byte of the data cells reads 0, assumption 3; the count of free values and the
waiting commands are kept over the reset, assumptions 1 and 8; where a lane's visit stands, its round's marks, and its
state as the model stores it, assumption 17; the interval, 28; the receiving side of the ports and what was sent last,
32; the model's own records, 18 and 47.) -/
def Obligations.PowerOnResetGivesPowerOnValues : Prop :=
  (∀ (s : State) (strap : Bool),
      exec (.powerOnReset strap) s = .next { State.powerOn strap with pending := s.pending, freeUsed := s.freeUsed })
    ∧ (∀ s : State, ∃ t, exec .powerOnResetAsserted s = .next t ∧ t.powered = false ∧ alert t = false
        ∧ t.up.linkUp = false ∧ t.dp.linkUp = false ∧ t.mp.pulse = false
        ∧ t.rmu = s.rmu ∧ t.hs = s.hs ∧ t.gw = s.gw ∧ t.ce = s.ce ∧ t.fu = s.fu ∧ t.mu = s.mu ∧ t.clu = s.clu
        ∧ t.mp = { s.mp with pulse := false } ∧ t.pending = s.pending)
    ∧ (∀ strap : Bool,
        let s := State.powerOn strap
        let strapped : Mode := if strap then .regulate else .bypass
        s.mp = { mode := strapped, remembered := if strap then .regulate else .bypass, ready := false, events := [],
                 eventMask := 0x1F3E1E, eventLost := false, popped := 0, holding := none, paceDirection := .input,
                 pulse := false, resetsDue := [], answer := none }
          ∧ (∀ e : EntryIx, s.rmu.entries[e]
              = { enabled := decide (e = 0), key := 0, mask := if e = 0 then 0 else 0xFFFF, cls := .bulk, windowBase := 0,
                  windowLimit := BitVec.ofNat 36 (2 ^ 36 - 1), floor := 0, ceiling := 65535, weight := 16,
                  burst := 16384, lendRatio := .none, refillSource := .formula, pinnedRefill := 0, quota := 64,
                  flightCap := 32, lowLimit := 0, highLimit := 65535, offset := 0, crossing := .off })
          ∧ s.rmu.classes = ⟨⟨false, 256, .stall⟩, ⟨false, 256, .stall⟩, ⟨false, 256, .defer⟩, ⟨false, 256, .defer⟩⟩
          ∧ s.hs = { held := [], arrivalCounter := 0, reservations := [], bytes := [], pressureOn := false,
                     descriptorLow := 64, descriptorHigh := 128, cellLow := 32, cellHigh := 64, stalled := false,
                     retryDue := false }
          ∧ freeDescriptors s = 512 ∧ freeCells s = 256
          ∧ s.gw.slots.toList.map (·.cls)
            = [.prime, .record, .prime, .bulk, .prime, .record, .prime, .scavenge,
               .prime, .record, .prime, .bulk, .prime, .record, .prime, .scavenge]
          ∧ (∀ i : Fin 16, s.gw.slots[i].enabled = true)
          ∧ s.gw.storedSplit = .splitFree ∧ s.gw.storedPacing = .continuous ∧ s.gw.appliedSplit = .splitFree
          ∧ s.gw.appliedPacing = .continuous ∧ s.gw.readPointers = ⟨0, 0, 0, 0⟩ ∧ s.gw.writePointers = ⟨0, 0, 0, 0⟩
          ∧ s.gw.grants = []
          ∧ (∀ l, laneState s l = if (if strap then l = .read ∨ l = .write else l = .drain) then .stopped else .idle)
          ∧ s.ce = { epochPeriod := 10, interval := 10, epochSource := .timer, epochCounter := 0,
                     records := s.ce.records, lent := 0, accumulator := 0, overcommit := false, pass := none,
                     portEpochBytes := 16384, penaltyScale := 128, rescueScale := 384, readFactor := 320,
                     writeFactor := 256 }
          ∧ (∀ e : EntryIx, s.ce.records[e] = ⟨if e = 0 then 16384 else 0, 0⟩)
          ∧ s.fu.table = [] ∧ s.fu.responseTimeout = 200 ∧ (∀ e : EntryIx, s.fu.counters[e] = ⟨0, 0, 0, 0⟩)
          ∧ s.mu = { windowLength := 100, overDeclare := 3, overClear := 5, starveDeclare := 4, starveClear := 4,
                     windowCount := 0, pass := none, heldClose := none, entries := s.mu.entries, rescueList := [] }
          ∧ (∀ e : EntryIx, s.mu.entries[e]
              = { state := if e = 0 then .normal else .disabled, released := 0, backlog := false, deferrals := 0,
                  closing := ⟨0, 0, false, 0, 0, .evaluated, false⟩, overCount := 0, starveCount := 0, clearCount := 0,
                  lastSign := .unknown })
          ∧ (∀ i : Fin 32, s.clu.list[i] = ⟨0, 0, 0⟩) ∧ s.clu.source = .go ∧ s.clu.oneShot = false
          ∧ s.clu.countdownLength = 1 ∧ s.clu.armed = false ∧ s.clu.countdown = none ∧ s.clu.run = none
          ∧ s.up = { linkUp := false, queue := [], reception := .stray, generated := [], headerCredits := 0,
                     dataCredits := 0, headerAdvertised := 0, dataAdvertised := 0, lastKind := none, sent := [] }
          ∧ s.dp = { linkUp := false, headerCredits := 0, dataCredits := 0, headerAdvertised := 0, dataAdvertised := 0,
                     whole := [], reception := .stray, sending := none, lastLane := none, sent := [] })

/-- The state after power-on reset, with either level of the MODE strap, meets every law of the part that a step keeps.
-/
def Obligations.PowerOnStateMeetsEveryLaw : Prop :=
  ∀ strap : Bool,
    let s := State.powerOn strap
    TableLaw s ∧ SettingsLaw s ∧ BalanceLaw s ∧ LentLaw s ∧ PassLaw s ∧ RescueLaw s ∧ CounterLaw s ∧ PoolLaw s
      ∧ FreedLaw s ∧ WriteLaw s ∧ PairLaw s ∧ FenceLaw s ∧ YoungestFenceLaw s ∧ GrantLaw s ∧ PlacesLaw s ∧ EventLaw s ∧ MemoryLaw s

/-- Section 11.2: the eight bytes of a management command's frame, clocked in and decoded, give that command back with
every operand; and every frame, whatever its bytes, names a well-formed command. R184, section 11.2: an answer's five
bytes are its answer code and then its value, the most significant byte first, and give it back; of an answer cut off
after n bits the controller has the first n, most significant first. Section 1.2: the 16 bytes of a header carry every
field, and nothing else. R184: on the wires, 64 rising edges of MCK while MSEL is low make the frame and its command,
and a rise of MSEL before that discards it; edges of MCK while MSEL is high are ignored, and MDO is not driven then; MDO
is low while the command's work is under way, high once the answer is ready, as it is only once every block has taken
its act of a SOFT RESET, and then carries the answer's bits; a rise of MSEL in the answer undoes nothing; while PORn is
low the port takes no frame; and every frame taken has an answer. (Whole frames and answers, the wires beside State, and
a frame under way as PORn falls: assumption 30.) -/
def Obligations.LayoutsCarryEveryField : Prop :=
  ((∀ (i : Instr) (f : Frame), i.wf = true → frameOf i = some f →
      frameCommand (pinOf i) (frameOfBits (frameBits f)) = i)
    ∧ (∀ (pin : Bool) (f : Frame), (frameCommand pin f).wf = true))
    ∧ ((∀ h : Header, headerOfBits (headerBits h) = h) ∧ (∀ w : BitVec 128, headerBits (headerOfBits w) = w))
    ∧ (∀ a : Answer,
        let code : Nat := match a.code with
          | .done => 0
          | .clamped => 1
          | .refusedState => 2
          | .badTarget => 3
        answerOfBits (answerBits a) = some a ∧ (answerBits a).toNat = code * 2 ^ 32 + a.value.toNat
          ∧ (∀ n k : Nat, n ≤ 40 →
              (shiftedOut n a)[k]? = if k < n then some ((answerBits a).getLsbD (39 - k)) else none))
    ∧ (∀ (w : BitVec 40) (a : Answer), answerOfBits w = some a → answerBits a = w)
    ∧ (∀ (s : State) (pin : Bool) (f : Frame), s.powered = true →
        let bits := (List.range 64).map fun k => (frameBits f).getMsbD k
        let clocked := fun n : Nat =>
          (bits.take n).foldl (fun p b => serialNext s (.mckRises b) p) (serialNext s .mselFalls .deselected)
        (∀ n < 64, clocked n = .sampling (bits.take n) ∧ serialCommand s pin .mselRises (clocked n) = some .frameAbort)
          ∧ (∀ n < 63, ∀ b, serialCommand s pin (.mckRises b) (clocked n) = none)
          ∧ (∀ b ∈ bits.getLast?, serialCommand s pin (.mckRises b) (clocked 63) = some (frameCommand pin f))
          ∧ clocked 64 = .working)
    ∧ (∀ (s : State) (pin : Bool) (p : SerialPhase) (ev : SerialEvent),
        mdoLevel .deselected s = none ∧ mdoLevel .working s = some false ∧ mdoLevel (.answering 0) s = some true
          ∧ (∀ a n, s.mp.answer = some a → n < 40 → mdoLevel (.answering (n + 1)) s = (shiftedOut 40 a)[n]?)
          ∧ serialNext s .mselRises p = .deselected
          ∧ serialNext s .pornFalls p = .deselected ∧ serialCommand s pin .pornFalls p = none
          ∧ ((∀ l, p ≠ .sampling l) → serialCommand s pin .mselRises p = none)
          ∧ (∀ b, serialNext s (.mckRises b) .deselected = .deselected
              ∧ serialCommand s pin (.mckRises b) .deselected = none)
          ∧ serialNext s .mckFalls .deselected = .deselected
          ∧ (s.powered = true →
              (Settled s → serialNext s .answerReady .working = .answering 0)
                ∧ (¬ Settled s → serialNext s .answerReady .working = .working)
                ∧ (∀ n, serialNext s .mckFalls (.answering n) = .answering (n + 1)))
          ∧ (s.powered = false → serialNext s ev p = .deselected ∧ serialCommand s pin ev p = none))
    ∧ (∀ (i : Instr) (f : Frame) (s t : State), s.powered = true → frameOf i = some f → exec i s = .next t →
        t.mp.answer ≠ none)

/-! ### Laws that every step keeps -/

/-- The content of the data cells keeps its one canonical form. (The form is the model's own: assumption 3.) -/
def Obligations.CellContentsStayCanonical : Prop :=
  ∀ s t : State, MemoryLaw s → step s = .next t → MemoryLaw t

/-- R21, R22, R30, R51, R100, R105, R126, R144, R177: every configuration field stays in its range, whatever is
written, and entry 0 stays enabled. -/
def Obligations.ConfigurationStaysInRange : Prop :=
  ∀ s t : State, step s = .next t → (TableLaw s → TableLaw t) ∧ (SettingsLaw s → SettingsLaw t)

/-- R104: every enabled entry's balance stays between −16496 and its burst cap, and every disabled entry's is 0. R105,
R113: the lent pool never exceeds PORT_EPOCH_BYTES. R106: the snapshot of a running pass holds each entry of the
enabled set once, in index order. -/
def Obligations.CreditStaysInBounds : Prop :=
  (∀ s t : State, BalanceLaw s → step s = .next t → BalanceLaw t)
    ∧ (∀ s t : State, LentLaw s → step s = .next t → LentLaw t)
    ∧ (∀ s t : State, PassLaw s → step s = .next t → PassLaw t)

/-- R157, R158: the rescue list holds each STARVED entry exactly once and nothing else, and an entry reads DISABLED
exactly while it is not enabled. R141, R145, R147, R149, R152, R154: every counter and every accumulator stays within
its range (assumption 5 for the window epoch count and the held close's count). -/
def Obligations.RescueListAndCountersStayLegal : Prop :=
  (∀ s t : State, RescueLaw s → step s = .next t → RescueLaw t)
    ∧ (∀ s t : State, CounterLaw s → step s = .next t → CounterLaw t)

/-- R37, R39, R40, R59: at most 512 descriptors are in use, each of its own number; no cell belongs to two writes; a
write's reservation has the cells its length takes; and no write whose two ends are finished keeps its cells. R40, R57:
each write that is held, granted or being sent has a reservation of its own, which while it is held is RECEIVING or
COMPLETE. -/
def Obligations.PoolsStayWhole : Prop :=
  (∀ s t : State, PoolLaw s ∧ FreedLaw s → step s = .next t → PoolLaw t ∧ FreedLaw t)
    ∧ (∀ s t : State, PoolLaw s → FreedLaw s → WriteLaw s → step s = .next t → WriteLaw t)

/-- R45, R123: no two held or released transactions share a requester id and tag, and at most 256 are in flight. R73:
each lane holds at most one granted release. -/
def Obligations.PairsAndGrantsStayUnique : Prop :=
  (∀ s t : State, PairLaw s → step s = .next t → PairLaw t)
    ∧ (∀ s t : State, GrantLaw s → step s = .next t → GrantLaw t)

/-- R66, R67, R69, R70: every fence joins a held transaction to one held before it, of the same entry and the other
kind, whose span overlaps its own. R67, R70: and a held transaction with such an older one is always fenced, on the
youngest of them: a hold, a release, a discard and its new targets all keep this. -/
def Obligations.FencesJoinOlderOverlaps : Prop :=
  (∀ s t : State, FenceLaw s → step s = .next t → FenceLaw t)
    ∧ (∀ s t : State, FenceLaw s → YoungestFenceLaw s → step s = .next t → YoungestFenceLaw t)

/-- R9, R10, R189: the arrival queue holds at most 8 headers and 64 beats, the response buffer at most 4 headers and 64
beats, and the event queue at most 32 records. -/
def Obligations.QueuesStayWithinTheirPlaces : Prop :=
  ∀ s t : State, step s = .next t → (PlacesLaw s → PlacesLaw t) ∧ (EventLaw s → EventLaw t)

/-! ### What each command leaves alone -/

/-- R39, R52: a byte of a data cell is changed by a beat that lands in it, when it arrives or when its write is held,
and by power-on reset; every other command leaves every byte as it was. -/
def Obligations.OnlyBeatsChangeCellBytes : Prop :=
  ∀ (c : Instr) (s t : State), exec c s = .next t → (∀ b, c ≠ .upBeatArrival b) → c ≠ .disposition →
    (∀ p, c ≠ .powerOnReset p) → ∀ a : Nat, readByte t.hs.bytes a = readByte s.hs.bytes a

/-- R20, R182: configuration is changed by writes, by a change-list entry being applied and by power-on reset, and by
nothing else. A soft reset changes none, unless a change-list run is under way whose entry may have been handed to its
owner (assumption 40). (Settled: no act of a soft reset is due; a frame takes those that are, and
SoftResetKeepsModeAndConfiguration says what they do: assumption 47.) -/
def Obligations.ConfigurationChangesOnlyByWrites : Prop :=
  ∀ (c : Instr) (s t : State), exec c s = .next t →
    (mayConfigure c = false ∨ (s.clu.run = none ∧ ∃ pin, c = .softReset pin)) →
    (Settled s ∨ frameOf c = none) →
    t.rmu = s.rmu ∧ t.gw.slots = s.gw.slots ∧ t.gw.storedSplit = s.gw.storedSplit
      ∧ t.gw.storedPacing = s.gw.storedPacing ∧ t.hs.descriptorLow = s.hs.descriptorLow
      ∧ t.hs.descriptorHigh = s.hs.descriptorHigh ∧ t.hs.cellLow = s.hs.cellLow ∧ t.hs.cellHigh = s.hs.cellHigh
      ∧ t.ce.epochPeriod = s.ce.epochPeriod ∧ t.ce.epochSource = s.ce.epochSource
      ∧ t.ce.portEpochBytes = s.ce.portEpochBytes ∧ t.ce.penaltyScale = s.ce.penaltyScale
      ∧ t.ce.rescueScale = s.ce.rescueScale ∧ t.ce.readFactor = s.ce.readFactor
      ∧ t.ce.writeFactor = s.ce.writeFactor ∧ t.fu.responseTimeout = s.fu.responseTimeout
      ∧ t.mu.windowLength = s.mu.windowLength ∧ t.mu.overDeclare = s.mu.overDeclare
      ∧ t.mu.overClear = s.mu.overClear ∧ t.mu.starveDeclare = s.mu.starveDeclare
      ∧ t.mu.starveClear = s.mu.starveClear ∧ t.clu.list = s.clu.list ∧ t.clu.source = s.clu.source
      ∧ t.clu.oneShot = s.clu.oneShot ∧ t.clu.countdownLength = s.clu.countdownLength
      ∧ t.mp.eventMask = s.mp.eventMask ∧ t.mp.paceDirection = s.mp.paceDirection

/-- R164, R167, R168: the regulator mode changes only by the four mode commands and power-on reset, the remembered mode
only by HALT and power-on reset, and READY only by the start-up fill's end and power-on reset; the fill's end never
clears it. R102: the epoch counter moves only at an expiry of the epoch timer or an edge of PACE, and then by one, from
65535 to 0. -/
def Obligations.ModeAndEpochChangeOnlyByTheirEvents : Prop :=
  (∀ (c : Instr) (s t : State), exec c s = .next t → (∀ p, c ≠ .powerOnReset p) →
    (c ≠ .engage ∧ c ≠ .bypass ∧ c ≠ .halt ∧ c ≠ .resume → t.mp.mode = s.mp.mode)
      ∧ (c ≠ .halt → t.mp.remembered = s.mp.remembered)
      ∧ (c ≠ .startUpFillEnd → t.mp.ready = s.mp.ready) ∧ (s.mp.ready = true → t.mp.ready = true))
    ∧ (∀ (c : Instr) (s t : State), exec c s = .next t → (∀ p, c ≠ .powerOnReset p) →
    (t.ce.epochCounter = s.ce.epochCounter ∨ t.ce.epochCounter = s.ce.epochCounter + 1)
      ∧ (c ≠ .epochTimerExpiry ∧ c ≠ .paceEdge → t.ce.epochCounter = s.ce.epochCounter))

/-- R189 to R192: the event queue loses records only by POP EVENT, a soft reset and power-on reset, and otherwise only
grows at its tail; EVENT_LOST is cleared only by CLEAR STATUS and power-on reset; and only a management command changes
the answer and the counter holding register. -/
def Obligations.EventsStayQueuedInOrder : Prop :=
  ∀ (c : Instr) (s t : State), exec c s = .next t → (∀ p, c ≠ .powerOnReset p) →
    (c ≠ .popEvent → (∀ p, c ≠ .softReset p) → s.mp.events <+: t.mp.events)
      ∧ ((∀ v p, c ≠ .clearStatus v p) → s.mp.eventLost = true → t.mp.eventLost = true)
      ∧ (frameOf c = none → t.mp.answer = s.mp.answer ∧ t.mp.holding = s.mp.holding)


/-! ### Acts that many commands share -/

/-- R189: what a post does to the event queue, in its three cases; a write of the event mask stores bits 1 to 20 and
leaves the records already queued; and no post takes the queue past 32 records. -/
def Obligations.PostingAnEvent : Prop :=
  (∀ (k : EventKind) (e : Option EntryIx) (v : Option Nat) (s : State),
      (s.mp.eventMask.getLsbD (eventCode k) = false → postEvent k e v s = s)
        ∧ (s.mp.eventMask.getLsbD (eventCode k) = true → 32 ≤ s.mp.events.length →
            postEvent k e v s = { s with mp := { s.mp with eventLost := true } })
        ∧ (s.mp.eventMask.getLsbD (eventCode k) = true → s.mp.events.length < 32 →
            postEvent k e v s
              = { s with mp := { s.mp with
                                 events := s.mp.events ++ [⟨k, e, v.map (BitVec.ofNat 32), s.ce.epochCounter⟩] } })
        ∧ (EventLaw s → EventLaw (postEvent k e v s)))
    ∧ (∀ (v : Word) (s : State), s.powered = true → Settled s →
        exec (.eventMaskWrite v) s
          = .next { s with mp := { s.mp with
                                   eventMask := v &&& 0x1FFFFE,
                                   answer := some ⟨if v &&& 0x1FFFFE = v then .done else .clamped,
                                                   v &&& 0x1FFFFE⟩ } })

/-- R26: the entry a requester id matches: the lowest-indexed enabled entry of 1 to 47 whose key agrees with the id on
every bit where its mask is 1, and entry 0 when there is none. -/
def Obligations.RequesterIdMatchesOneEntry : Prop :=
  ∀ (s : State) (rid : ReqId),
    let agrees := fun e : EntryIx => ∀ i < 16, s.rmu.entries[e].mask.getLsbD i = true →
      rid.getLsbD i = s.rmu.entries[e].key.getLsbD i
    let eligibleEntry := fun e : EntryIx => e ≠ 0 ∧ s.rmu.entries[e].enabled = true ∧ agrees e
    (matchEntry s rid ≠ 0 → eligibleEntry (matchEntry s rid) ∧ ∀ e < matchEntry s rid, ¬ eligibleEntry e)
      ∧ (matchEntry s rid = 0 → ∀ e : EntryIx, ¬ eligibleEntry e)

/-- R51: pressure turns ON at or below a low mark and OFF only at or above both effective high marks and above both low
marks, with the event that carries both counts; a write of a mark is stored, a value past its range or a high mark
below its low mark being raised or lowered, and pressure is evaluated. -/
def Obligations.PressureFollowsItsMarks : Prop :=
  (∀ s : State,
      let d := freeDescriptors s
      let c := freeCells s
      let low := d ≤ s.hs.descriptorLow ∨ c ≤ s.hs.cellLow
      let clear := s.hs.descriptorHigh ≤ d ∧ s.hs.cellHigh ≤ c ∧ s.hs.descriptorLow < d ∧ s.hs.cellLow < c
      (s.hs.pressureOn = false → low →
          evaluatePressure s
            = postEvent .poolPressureOn none (some (d * 65536 + c)) { s with hs := { s.hs with pressureOn := true } })
        ∧ (s.hs.pressureOn = false → ¬ low → evaluatePressure s = s)
        ∧ (s.hs.pressureOn = true → clear →
            evaluatePressure s
              = postEvent .poolPressureOff none (some (d * 65536 + c)) { s with hs := { s.hs with pressureOn := false } })
        ∧ (s.hs.pressureOn = true → ¬ clear → evaluatePressure s = s))
    ∧ (∀ (s : State) (v : Word), s.powered = true → Settled s →
        let answered := fun (n : Nat) (h : HoldStore) =>
          let t := evaluatePressure { s with hs := h }
          Host.Outcome.next (φ := Fault) (ρ := Refusal)
            { t with mp := { t.mp with answer := some ⟨if n = v.toNat then .done else .clamped, BitVec.ofNat 32 n⟩ } }
        exec (.pressureMarkWrite .descriptorLow v) s
            = answered (min v.toNat 512) { s.hs with descriptorLow := min v.toNat 512 }
          ∧ exec (.pressureMarkWrite .descriptorHigh v) s
            = answered (max (min v.toNat 512) s.hs.descriptorLow)
                { s.hs with descriptorHigh := max (min v.toNat 512) s.hs.descriptorLow }
          ∧ exec (.pressureMarkWrite .cellLow v) s
            = answered (min v.toNat 256) { s.hs with cellLow := min v.toNat 256 }
          ∧ exec (.pressureMarkWrite .cellHigh v) s
            = answered (max (min v.toNat 256) s.hs.cellLow)
                { s.hs with cellHigh := max (min v.toNat 256) s.hs.cellLow })

/-- R77, R82, R94: a wake marks the round of a WALKING lane as woken, starts a round of an IDLE lane in CONTINUOUS
pacing (under SPLIT_LOCKED, of both lanes together, once both are IDLE), starts the IDLE drain lane, and changes
nothing else of the part; a lane that ended its round while the stored settings differ from the applied ones waits for
the changeover, and one IDLE since before they differed does not. A lane that is not active, and a drain lane that is
not IDLE, stay as they are. Several reports are several wakes. (How a lane is marked as waiting: assumption 41; that
reports of one act are each a wake: assumption 42.) -/
def Obligations.WakesReachTheLanes : Prop :=
  ∀ s : State,
    let free := fun l : LaneName =>
      laneState s l = .idle ∧ ((s.gw.lanes.get l).held = true →
        s.gw.storedSplit = s.gw.appliedSplit ∧ s.gw.storedPacing = s.gw.appliedPacing)
    wake s = { s with gw := { s.gw with lanes := (wake s).gw.lanes } }
      ∧ wakes 0 s = s ∧ (∀ n, wakes (n + 1) s = wakes n (wake s))
      ∧ (∀ l ∈ wheelLanes s, laneState s l = .walking →
          (wake s).gw.lanes.get l = { s.gw.lanes.get l with woken := true })
      ∧ (∀ l ∈ wheelLanes s, free l → s.gw.appliedPacing = .continuous →
          (s.gw.appliedSplit = .splitLocked → ∀ k ∈ wheelLanes s, free k) →
          (wake s).gw.lanes.get l
            = { motion := .walking, slot := firstSlot l, phase := .arrive, released := false, woken := false,
                held := false })
      ∧ (∀ l ∈ wheelLanes s, laneState s l = .idle →
          (s.gw.appliedPacing = .paced ∨ ¬ free l
            ∨ (s.gw.appliedSplit = .splitLocked ∧ ∃ k ∈ wheelLanes s, ¬ free k)) →
          (wake s).gw.lanes.get l = s.gw.lanes.get l)
      ∧ (∀ l ∈ wheelLanes s, laneState s l = .waitingLink ∨ laneState s l = .stopped →
          (wake s).gw.lanes.get l = s.gw.lanes.get l)
      ∧ (LaneName.drain ∈ lanesActive s → laneState s .drain = .idle →
          (wake s).gw.lanes.get .drain = { s.gw.lanes.get .drain with motion := .walking })
      ∧ (laneState s .drain ≠ .idle → (wake s).gw.lanes.get .drain = s.gw.lanes.get .drain)
      ∧ (∀ l, l ∉ lanesActive s → (wake s).gw.lanes.get l = s.gw.lanes.get l)

/-! ### The upstream port -/

/-- R7, R8: credits that a link partner advertises are added to the port's counts. R17, R168: the upstream link coming
up forgets the kind last sent and advertises 8 header and 64 data credits once READY is set; the start-up fill's end
sets READY and, with the link up, advertises the same credits. -/
def Obligations.CreditsAreGrantedAndAdvertised : Prop :=
  (∀ (s : State) (headers beats : Nat), s.powered = true →
    (s.up.linkUp = true →
        exec (.switchCreditGrant headers beats) s
          = .next { s with up := { s.up with headerCredits := s.up.headerCredits + headers,
                                             dataCredits := s.up.dataCredits + beats } })
      ∧ (s.dp.linkUp = true →
        exec (.memoryCreditGrant headers beats) s
          = .next { s with dp := { s.dp with headerCredits := s.dp.headerCredits + headers,
                                             dataCredits := s.dp.dataCredits + beats } }))
    ∧ (∀ s : State, s.powered = true →
    (s.up.linkUp = false →
        exec .upLinkUp s
          = .next { s with up := { s.up with linkUp := true, lastKind := none, reception := .stray,
                                             headerAdvertised := if s.mp.ready then 8 else s.up.headerAdvertised,
                                             dataAdvertised := if s.mp.ready then 64 else s.up.dataAdvertised } })
      ∧ (s.mp.ready = false →
        exec .startUpFillEnd s
          = .next { s with mp := { s.mp with ready := true },
                           up := { s.up with
                                   headerAdvertised := if s.up.linkUp then 8 else s.up.headerAdvertised,
                                   dataAdvertised := if s.up.linkUp then 64 else s.up.dataAdvertised } }))

/-- R6, R10, R53: a header joins the tail of the arrival queue while fewer than 8 stand there, closing a write still
arriving at the tail; a ninth is an overrun and is discarded with PROTOCOL_FAULT, and still ends the packet before it:
a write arriving at the tail is closed by it, and one arriving in its cells ends as it does by a header that finds a
place. (The overrun test by places taken: assumption 19.) -/
def Obligations.HeadersJoinTheArrivalQueue : Prop :=
  ∀ (s : State) (h : Header), s.powered = true → s.up.linkUp = true →
    ((∀ c, s.up.reception ≠ .cells c) → s.up.reception ≠ .queued → s.up.queue.length < 8 →
        exec (.upHeaderArrival h) s
          = .next { s with up := { s.up with queue := s.up.queue ++ [⟨h, [], none, false⟩],
                                             reception := if h.kindCode = 2 then .queued else .stray,
                                             headerAdvertised := s.up.headerAdvertised - 1 } })
      ∧ (∀ (q : List ArrivalPacket) (p : ArrivalPacket), s.up.reception = .queued → s.up.queue = q ++ [p] →
          s.up.queue.length < 8 →
          exec (.upHeaderArrival h) s
            = .next { s with up := { s.up with queue := q ++ [{ p with closing := some .nextHeader }, ⟨h, [], none, false⟩],
                                               reception := if h.kindCode = 2 then .queued else .stray,
                                               headerAdvertised := s.up.headerAdvertised - 1 } })
      ∧ ((∀ c, s.up.reception ≠ .cells c) → s.up.reception ≠ .queued → 8 ≤ s.up.queue.length →
          exec (.upHeaderArrival h) s
            = .next (postEvent .protocolFault none (some 5)
                { s with up := { s.up with reception := .overrun,
                                           headerAdvertised := s.up.headerAdvertised - 1 } }))
      ∧ (∀ (q : List ArrivalPacket) (p : ArrivalPacket), s.up.reception = .queued → s.up.queue = q ++ [p] →
          8 ≤ s.up.queue.length →
          exec (.upHeaderArrival h) s
            = .next (postEvent .protocolFault none (some 5)
                { s with up := { s.up with queue := q ++ [{ p with closing := some .nextHeader }],
                                           reception := .overrun,
                                           headerAdvertised := s.up.headerAdvertised - 1 } }))
      ∧ (∀ c : Nat, s.up.reception = .cells c → 8 ≤ s.up.queue.length →
          ∃ u, exec (.upHeaderArrival h) { s with up := { s.up with queue := [] } } = .next u
            ∧ exec (.upHeaderArrival h) s
              = .next (postEvent .protocolFault none (some 5)
                  { u with up := { u.up with queue := s.up.queue, reception := .overrun } }))

/-- R6, R39, R52: a beat that fits the held or released write it belongs to is stored byte by byte in that write's
cells from its received bytes on, and every other byte of the data cells stays as it was; while the write stands in the
arrival queue the beat joins it there. R40, R82, R134: a landed beat is a wake, and ends the underrun wait of that very
write if its next beat is now there; nothing else of the packet under way changes. R6, R10, R52: a beat of a DRAINING
write, of an answered head and of an overrun header is discarded and its credit goes back; a stray one too, with
PROTOCOL_FAULT; a beat that finds every place taken is an overrun: it is discarded with PROTOCOL_FAULT and no credit,
and marks the write it belongs to. (Where a cell byte stands in memory: assumption 3; the overrun test: assumption 19.)
-/
def Obligations.BeatsLandInTheirCells : Prop :=
  (∀ (s : State) (b : Beat) (c : Nat) (r : Reservation), s.powered = true → s.up.linkUp = true →
      s.up.reception = .cells c → queuedBeats s.up < 64 → 1 ≤ s.up.dataAdvertised →
      reservationAt s c = some r → r.data = .receiving → r.received % 64 = 0 →
      r.received + b.length ≤ txnLength r.txn → PoolLaw s → MemoryLaw s →
      ∃ t, exec (.upBeatArrival b) s = .next t
        ∧ reservationAt t c = some { r with received := r.received + b.length }
        ∧ (∀ x, x ≠ c → reservationAt t x = reservationAt s x)
        ∧ (∀ (k : Nat) (hk : k < b.length),
            readByte t.hs.bytes (cellAddress r.cells (r.received + k)) = b[k])
        ∧ (∀ a : Nat, (∀ k < b.length, a ≠ cellAddress r.cells (r.received + k)) →
            readByte t.hs.bytes a = readByte s.hs.bytes a)
        ∧ t = { s with hs := { s.hs with bytes := t.hs.bytes, reservations := t.hs.reservations }, gw := (wake s).gw,
                       dp := { s.dp with
                               sending := s.dp.sending.map fun q =>
                                 if q.cells = c ∧ q.beatsSent < requestBeats q.txn
                                     ∧ min (64 * (q.beatsSent + 1)) (txnLength q.txn) ≤ r.received + b.length then
                                   { q with waiting := false }
                                 else q } })
    ∧ (∀ (s : State) (b : Beat) (q : List ArrivalPacket) (p : ArrivalPacket), s.powered = true → s.up.linkUp = true →
        s.up.reception = .queued → s.up.queue = q ++ [p] → queuedBeats s.up < 64 →
        exec (.upBeatArrival b) s
          = .next { s with up := { s.up with queue := q ++ [{ p with beats := p.beats ++ [b] }],
                                             dataAdvertised := s.up.dataAdvertised - 1 } })
    ∧ (∀ (s : State) (b : Beat), s.powered = true → s.up.linkUp = true → queuedBeats s.up < 64 →
        1 ≤ s.up.dataAdvertised →
        (∀ (c : Nat) (r : Reservation), s.up.reception = .cells c → reservationAt s c = some r → r.data = .draining →
            exec (.upBeatArrival b) s = .next s)
          ∧ (s.up.reception = .answered ∨ s.up.reception = .overrun → exec (.upBeatArrival b) s = .next s)
          ∧ (s.up.reception = .stray → exec (.upBeatArrival b) s = .next (postEvent .protocolFault none (some 4) s)))
    ∧ (∀ (s : State) (b : Beat), s.powered = true → s.up.linkUp = true → 64 ≤ queuedBeats s.up →
        let lost := fun (q : List ArrivalPacket) (h : HoldStore) =>
          postEvent .protocolFault none (some 5)
            { s with up := { s.up with queue := q, dataAdvertised := s.up.dataAdvertised - 1 }, hs := h }
        (∀ (q : List ArrivalPacket) (p : ArrivalPacket), s.up.reception = .queued → s.up.queue = q ++ [p] →
            exec (.upBeatArrival b) s = .next (lost (q ++ [{ p with lostBeat := true }]) s.hs))
          ∧ (∀ (c : Nat) (r : Reservation), s.up.reception = .cells c → reservationAt s c = some r →
            ∃ t, exec (.upBeatArrival b) s = .next t
              ∧ t = lost s.up.queue { s.hs with reservations := t.hs.reservations }
              ∧ reservationAt t c = some { r with lostBeat := true }
              ∧ (∀ x, x ≠ c → reservationAt t x = reservationAt s x))
          ∧ (s.up.reception = .stray ∨ s.up.reception = .answered ∨ s.up.reception = .overrun →
            exec (.upBeatArrival b) s = .next (lost s.up.queue s.hs)))

/-- R1, R53: an end mark that follows every byte of a write makes its data state COMPLETE, and changes no byte, no held
transaction and no credit; R40, R82, R134: the change is a wake, and ends the underrun wait of that very write if its
next unit is now there; one that no open write allows is stray. An abort mark waits in the queue, or is stray, as an
end mark does. R53, R55, R56, R59: an end mark, an abort mark or the next header that reaches a DRAINING write closes
it, and, of a released write whose transmission is DONE, ends the reception of a RECEIVING one; either way that is a
wake, nothing is answered or counted, the packet under way stays, and the cells are freed, pressure then being
evaluated, if its transmission is DONE. R10, R6: a mark after an answered head is discarded, and so is one after an
overrun header. (Pressure once for descriptors and cells: assumption 23.) -/
def Obligations.EndMarkCompletesTheWrite : Prop :=
  (∀ (s : State) (c : Nat) (r : Reservation), s.powered = true → s.up.linkUp = true → s.up.reception = .cells c →
      reservationAt s c = some r → r.data = .receiving → r.received = txnLength r.txn → r.lostBeat = false →
      r.transmission ≠ .done →
      ∃ t, exec .upEndMark s = .next t
        ∧ reservationAt t c = some { r with data := .complete }
        ∧ (∀ x, x ≠ c → reservationAt t x = reservationAt s x)
        ∧ t = { s with up := { s.up with reception := .stray },
                       hs := { s.hs with reservations := t.hs.reservations }, gw := (wake s).gw,
                       dp := { s.dp with
                               sending := s.dp.sending.map fun q =>
                                 if q.cells = c ∧ (q.beatsSent < requestBeats q.txn →
                                     min (64 * (q.beatsSent + 1)) (txnLength q.txn) ≤ r.received) then
                                   { q with waiting := false }
                                 else q } })
    ∧ (∀ (s : State) (q : List ArrivalPacket) (p : ArrivalPacket), s.powered = true → s.up.linkUp = true →
        s.up.reception = .queued → s.up.queue = q ++ [p] →
        exec .upEndMark s
          = .next { s with up := { s.up with queue := q ++ [{ p with closing := some .endMark }],
                                             reception := .stray } })
    ∧ (∀ (s : State) (q : List ArrivalPacket) (p : ArrivalPacket), s.powered = true → s.up.linkUp = true →
        s.up.reception = .queued → s.up.queue = q ++ [p] →
        exec .requesterAbort s
          = .next { s with up := { s.up with queue := q ++ [{ p with closing := some .abortMark }],
                                             reception := .stray } })
    ∧ (∀ (s : State) (m : Instr), s.powered = true → s.up.linkUp = true → (m = .upEndMark ∨ m = .requesterAbort) →
        (s.up.reception = .stray → exec m s = .next (postEvent .protocolFault none (some 4) s))
          ∧ (s.up.reception = .answered → exec m s = .next { s with up := { s.up with reception := .stray } })
          ∧ (s.up.reception = .overrun → exec m s = .next s))
    ∧ (∀ (s : State) (c : Nat) (r : Reservation), s.powered = true → s.up.linkUp = true → PoolLaw s → WriteLaw s →
        s.up.reception = .cells c → reservationAt s c = some r →
        (r.data = .draining ∨ (r.data = .receiving ∧ r.transmission = .done ∧ heldWrite s c = none)) →
        let closes := fun (i : Instr) (up : UpPort) =>
          ∃ t, exec i s = .next t
            ∧ t = { s with up := up,
                           hs := { s.hs with reservations := t.hs.reservations, pressureOn := t.hs.pressureOn,
                                             retryDue := t.hs.retryDue },
                           gw := (wake s).gw,
                           mp := { s.mp with events := t.mp.events, eventLost := t.mp.eventLost } }
            ∧ (∀ x, x ≠ c → reservationAt t x = reservationAt s x)
            ∧ (r.transmission = .done → reservationAt t c = none
                ∧ t.hs.retryDue = (s.hs.retryDue || s.hs.stalled)
                ∧ (let judged := evaluatePressure { s with hs := { t.hs with pressureOn := s.hs.pressureOn } }
                   t.hs.pressureOn = judged.hs.pressureOn ∧ t.mp = judged.mp))
            ∧ (r.transmission ≠ .done → reservationAt t c = some { r with data := .closed } ∧ t.mp = s.mp
                ∧ t.hs.pressureOn = s.hs.pressureOn ∧ t.hs.retryDue = s.hs.retryDue)
        closes .upEndMark { s.up with reception := .stray } ∧ closes .requesterAbort { s.up with reception := .stray }
          ∧ (∀ h : Header, s.up.queue.length < 8 →
            closes (.upHeaderArrival h)
              { s.up with queue := s.up.queue ++ [⟨h, [], none, false⟩],
                          reception := if h.kindCode = 2 then .queued else .stray,
                          headerAdvertised := s.up.headerAdvertised - 1 }))

/-- R53, R54, R58, R59: an end mark or the next header that comes before every byte of a held write, and a beat that
passes its length or follows a short one, refuse it: the write is answered PROTOCOL, counted as a refusal and posted as
PROTOCOL_FAULT, pressure then being evaluated, and leaves its list; its cells return to the pool at a closing event and
drain after a beat. A beat lost to overrun makes the end mark too early whatever came after it. R55, R139, R140: a
released write is refused in the same way, its flight entry removed and answered unless an orphan, its packet ended by
an abort mark if it is being sent, its release marked cut if it waits in its lane. R56, R58, R59, R138, R140: an abort
mark discards a held write without an answer and frees its cells; a released write is cut by an abort mark in the same
two ways, its flight entry removed without an answer. R55: of a released write whose transmission is DONE a mismatch at
a beat is taken at the Hold Store alone. R70: a follower of a discarded write is fenced on the youngest transaction
left on that list that was held before it and overlaps it, and on none when there is none; every other fence stays.
R40, R70, R82, R91: each lifted fence, data state change and removed flight entry is a wake, and a search that had
named the discarded head goes on after it. (Which search had: assumption 46; an abort after a lost beat: assumption 33;
pressure once for descriptor and cells: assumption 23; the record of what was sent: assumption 18; a short beat that
was lost: assumption 45.) -/
def Obligations.CutWritesAreDiscarded : Prop :=
  let fault := fun (s : State) (e : EntryIx) => postEvent .protocolFault (some e) (some 3) s
  let freed := fun (s t posted : State) =>
    let judged := evaluatePressure { posted with hs := { t.hs with pressureOn := s.hs.pressureOn } }
    t.hs.pressureOn = judged.hs.pressureOn ∧ t.mp = judged.mp ∧ t.hs.retryDue = (s.hs.retryDue || s.hs.stalled)
  let kept := fun (s t posted : State) =>
    t.hs.pressureOn = s.hs.pressureOn ∧ t.mp = posted.mp ∧ t.hs.retryDue = s.hs.retryDue
  let refusal := fun (s t : State) (e : EntryIx) =>
    t.fu.counters = s.fu.counters.set e
        { s.fu.counters[e] with refusals := min (2 ^ 32 - 1) (s.fu.counters[e].refusals + 1) }
      ∧ t.fu.responseTimeout = s.fu.responseTimeout
  let frame := fun (s t : State) (c : Nat) =>
    t.rmu = s.rmu ∧ t.ce = s.ce ∧ t.mu = s.mu ∧ t.clu = s.clu ∧ t.pending = s.pending
      ∧ t.gw = { s.gw with lanes := t.gw.lanes, grants := t.gw.grants }
      ∧ t.hs = { s.hs with held := t.hs.held, reservations := t.hs.reservations, pressureOn := t.hs.pressureOn,
                           retryDue := t.hs.retryDue }
      ∧ (∀ x, x ≠ c → reservationAt t x = reservationAt s x)
  let heldGoes := fun (s t posted : State) (d : Descriptor) (c : Nat) =>
    t.hs.held.map (·.number) = (s.hs.held.map (·.number)).filter (· != d.number)
      ∧ (∀ older x younger, s.hs.held = older ++ x :: younger → x.number ≠ d.number →
          (x.fence ≠ some d.number → x ∈ t.hs.held)
            ∧ (x.fence = some d.number → x.entry = d.entry →
                { x with fence := ((older.filter fun y => y.number != d.number && y.entry == d.entry
                                      && y.txn.kind == d.txn.kind && overlap y.txn x.txn).getLast?).map (·.number) }
                  ∈ t.hs.held))
      ∧ t.dp = s.dp ∧ t.gw.grants = s.gw.grants ∧ t.fu.table = s.fu.table ∧ frame s t c ∧ freed s t posted
      ∧ t.freeUsed = (nameGone d s).freeUsed
      ∧ (FenceLaw s →
          let lifted := t.hs.held.countP fun y =>
            y.fence.isNone && s.hs.held.any fun x => x.number == y.number && x.fence.isSome
          t.gw.lanes = (wakes (lifted + 1) (nameGone d s)).gw.lanes)
  let flightGoes := fun (s t : State) (r : Reservation) (c : Nat) =>
    t.fu.table = s.fu.table.filter (fun f => !samePair f.txn r.txn.requesterId r.txn.tag)
      ∧ t.hs.held = s.hs.held ∧ frame s t c ∧ t.freeUsed = s.freeUsed
      ∧ t.gw.lanes
        = (wakes (1 + if (flightOf s r.txn.requesterId r.txn.tag).isSome then 1 else 0) s).gw.lanes
  let sendingCut := fun (s t : State) =>
    t.dp = { s.dp with sending := none, sent := s.dp.sent ++ [.mark .abortMark] } ∧ t.gw.grants = s.gw.grants
  let laneCut := fun (s t : State) (c : Nat) =>
    t.dp = s.dp ∧ t.gw.grants = s.gw.grants.map fun x => if x.cells = some c then { x with cut := true } else x
  (∀ (s : State) (c : Nat) (r : Reservation) (d : Descriptor), s.powered = true → s.up.linkUp = true →
      s.up.reception = .cells c → reservationAt s c = some r → r.data = .receiving → heldWrite s c = some d →
      (r.received ≠ txnLength r.txn ∨ r.lostBeat = true →
          ∃ t, exec .upEndMark s = .next t ∧ heldGoes s t (fault s d.entry) d c ∧ refusal s t d.entry ∧ reservationAt t c = none
            ∧ t.up = { s.up with reception := .stray, generated := s.up.generated ++ [answerTxn d.txn .protocol] })
        ∧ (∀ h : Header, s.up.queue.length < 8 →
          ∃ t, exec (.upHeaderArrival h) s = .next t ∧ heldGoes s t (fault s d.entry) d c ∧ refusal s t d.entry ∧ reservationAt t c = none
            ∧ t.up = { s.up with queue := s.up.queue ++ [⟨h, [], none, false⟩],
                                 reception := if h.kindCode = 2 then .queued else .stray,
                                 generated := s.up.generated ++ [answerTxn d.txn .protocol],
                                 headerAdvertised := s.up.headerAdvertised - 1 })
        ∧ (∀ b : Beat, queuedBeats s.up < 64 → 1 ≤ s.up.dataAdvertised →
          (txnLength r.txn < r.received + b.length ∨ r.received % 64 ≠ 0) →
          ∃ t, exec (.upBeatArrival b) s = .next t ∧ heldGoes s t (fault s d.entry) d c ∧ refusal s t d.entry
            ∧ reservationAt t c = some { r with data := .draining, transmission := .done }
            ∧ t.up = { s.up with generated := s.up.generated ++ [answerTxn d.txn .protocol] })
        ∧ (∃ t, exec .requesterAbort s = .next t ∧ heldGoes s t s d c ∧ t.fu = s.fu
            ∧ reservationAt t c = none ∧ t.up = { s.up with reception := .stray }))
    ∧ (∀ (s : State) (c : Nat) (r : Reservation), s.powered = true → s.up.linkUp = true → s.up.reception = .cells c →
      reservationAt s c = some r → r.data = .receiving → r.transmission ≠ .done → heldWrite s c = none →
      let sent := ∃ p, s.dp.sending = some p ∧ p.cells = c
      let waits := ∀ p, s.dp.sending = some p → p.cells ≠ c
      (∀ f, flightOf s r.txn.requesterId r.txn.tag = some f →
        let answered := if f.orphan then s.up.generated else s.up.generated ++ [answerTxn f.txn .protocol]
        (r.received ≠ txnLength r.txn ∨ r.lostBeat = true →
            ∃ t, exec .upEndMark s = .next t ∧ flightGoes s t r c ∧ refusal s t r.entry
              ∧ t.up = { s.up with reception := .stray, generated := answered }
              ∧ (sent → sendingCut s t ∧ reservationAt t c = none ∧ freed s t (fault s r.entry))
              ∧ (waits → laneCut s t c ∧ reservationAt t c = some { r with data := .closed } ∧ kept s t (fault s r.entry)))
          ∧ (∀ h : Header, s.up.queue.length < 8 →
            ∃ t, exec (.upHeaderArrival h) s = .next t ∧ flightGoes s t r c ∧ refusal s t r.entry
              ∧ t.up = { s.up with queue := s.up.queue ++ [⟨h, [], none, false⟩],
                                   reception := if h.kindCode = 2 then .queued else .stray,
                                   generated := answered, headerAdvertised := s.up.headerAdvertised - 1 }
              ∧ (sent → sendingCut s t ∧ reservationAt t c = none ∧ freed s t (fault s r.entry))
              ∧ (waits → laneCut s t c ∧ reservationAt t c = some { r with data := .closed } ∧ kept s t (fault s r.entry)))
          ∧ (∀ b : Beat, queuedBeats s.up < 64 → 1 ≤ s.up.dataAdvertised →
            (txnLength r.txn < r.received + b.length ∨ r.received % 64 ≠ 0) →
            ∃ t, exec (.upBeatArrival b) s = .next t ∧ flightGoes s t r c ∧ refusal s t r.entry
              ∧ t.up = { s.up with generated := answered } ∧ kept s t (fault s r.entry)
              ∧ (sent → sendingCut s t ∧ reservationAt t c = some { r with data := .draining, transmission := .done })
              ∧ (waits → laneCut s t c ∧ reservationAt t c = some { r with data := .draining })))
        ∧ (∃ t, exec .requesterAbort s = .next t ∧ flightGoes s t r c ∧ t.fu.counters = s.fu.counters
            ∧ t.fu.responseTimeout = s.fu.responseTimeout
            ∧ t.up = { s.up with reception := .stray }
            ∧ (sent → sendingCut s t ∧ reservationAt t c = none ∧ freed s t s)
            ∧ (waits → laneCut s t c ∧ reservationAt t c = some { r with data := .closed } ∧ kept s t s)))
    ∧ (∀ (s : State) (c : Nat) (r : Reservation) (b : Beat), s.powered = true → s.up.linkUp = true →
      s.up.reception = .cells c → reservationAt s c = some r → r.data = .receiving → r.transmission = .done →
      heldWrite s c = none → queuedBeats s.up < 64 → 1 ≤ s.up.dataAdvertised →
      (txnLength r.txn < r.received + b.length ∨ r.received % 64 ≠ 0) →
      ∃ t, exec (.upBeatArrival b) s = .next t
        ∧ t = { s with hs := { s.hs with reservations := t.hs.reservations }, gw := (wake s).gw }
        ∧ reservationAt t c = some { r with data := .draining }
        ∧ (∀ x, x ≠ c → reservationAt t x = reservationAt s x))

/-- R7, R9, R12: the upstream arbiter sends the one response that is ready, or, of two, the kind it did not send last;
a forwarded one is preferred when none has been sent. A forwarded response is ready when the switch's data credits
cover its beats too, so a generated one goes while the other waits for them; with no header credit none goes. (A whole
packet in one step, and the record of what was sent: assumptions 29 and 18.) -/
def Obligations.ResponseArbiterAlternates : Prop :=
  (∀ (s : State) (h : Header) (rest : List Header), s.powered = true → s.up.linkUp = true →
      s.up.generated = h :: rest → 1 ≤ s.up.headerCredits →
      (s.dp.whole = [] ∨ s.up.lastKind = some .forwarded
        ∨ ∃ r more, s.dp.whole = r :: more ∧ s.up.dataCredits < r.beats.length) →
      exec .upResponseSend s
        = .next { s with up := { s.up with generated := rest, headerCredits := s.up.headerCredits - 1,
                                           lastKind := some .generated, sent := s.up.sent ++ [.header h] } })
    ∧ (∀ (s : State) (r : Response) (rest : List Response), s.powered = true → s.up.linkUp = true →
        s.dp.whole = r :: rest → 1 ≤ s.up.headerCredits → r.beats.length ≤ s.up.dataCredits →
        (s.up.generated = [] ∨ s.up.lastKind ≠ some .forwarded) →
        exec .upResponseSend s
          = .next { s with up := { s.up with headerCredits := s.up.headerCredits - 1,
                                             dataCredits := s.up.dataCredits - r.beats.length,
                                             lastKind := some .forwarded,
                                             sent := s.up.sent ++ .header r.header :: r.beats.map .beat },
                           dp := { s.dp with
                                   whole := rest,
                                   headerAdvertised := s.dp.headerAdvertised + (if s.dp.linkUp then 1 else 0),
                                   dataAdvertised :=
                                     s.dp.dataAdvertised + (if s.dp.linkUp then r.beats.length else 0) } })
    ∧ (∀ s : State, s.powered = true →
        (s.up.headerCredits = 0 ∨ (s.up.generated = [] ∧ ∀ r rest, s.dp.whole = r :: rest →
            s.up.dataCredits < r.beats.length)) →
        exec .upResponseSend s = .next s)

/-- R16, R61, R99, R120, R131, R162: the upstream link going down empties both queues of the port and the response
buffer's whole responses, for whose places memory's credits go back, posts UP_LINK_DOWN, discards every held
transaction unanswered, makes every flight entry an orphan, sets balances to their burst caps and the lent pool to 0,
ends a running pass, zeroes the open window's accumulators and the rotation pointers; granted releases, requester
states, closing records, the epoch counter, the arrival counter, the mode and all configuration stay. R138: a released
write whose units were still arriving is cut, and its flight entry removed. R61: the cells of every held write are
freed, and the reservation of a released write that neither is cut nor was still arriving is kept as it was. R40, R82:
what the blocks report reaches the lanes as wakes. (The order of the acts: assumption 4; the record of what was sent:
assumption 18; each report a wake: assumption 42. The lending accumulator is 0 afterwards with or without a pass running:
R120 says only that a running pass's accumulator is discarded, and the rest is the model's choice, assumption 48.) -/
def Obligations.UpLinkDownDiscardsHeldWork : Prop :=
  ∀ s : State, s.powered = true → s.up.linkUp = true → PoolLaw s → WriteLaw s →
    let orphans := fun table : List FlightEntry => table.map fun f => { f with orphan := true }
    let reports := (s.hs.reservations.filter fun r =>
        r.data == .receiving && s.hs.held.any fun d => d.cells == some (firstCell r)).length
      + (if s.ce.pass.isSome then 1 else 0)
    let isCut := fun (c : Nat) (r : Reservation) =>
      s.up.reception = .cells c ∧ reservationAt s c = some r ∧ r.data = .receiving ∧ heldWrite s c = none
        ∧ r.transmission ≠ .done
    let drains := fun (c : Nat) (r : Reservation) =>
      s.up.reception = .cells c ∧ heldWrite s c = none ∧ reservationAt s c = some r
        ∧ (r.data = .draining ∨ (r.data = .receiving ∧ r.transmission = .done))
    ∃ t, exec .upLinkDown s = .next t
      ∧ t.up = { s.up with linkUp := false, queue := [], reception := .stray, generated := [], headerCredits := 0,
                           dataCredits := 0, headerAdvertised := 0, dataAdvertised := 0 }
      ∧ t.dp = { s.dp with whole := [],
                           headerAdvertised :=
                             s.dp.headerAdvertised + (if s.dp.linkUp then s.dp.whole.length else 0),
                           dataAdvertised :=
                             s.dp.dataAdvertised + (if s.dp.linkUp then (s.dp.whole.map (·.beats.length)).sum else 0),
                           sending := t.dp.sending, sent := t.dp.sent }
      ∧ t.hs = { s.hs with held := [], reservations := t.hs.reservations, pressureOn := t.hs.pressureOn,
                           stalled := false, retryDue := false }
      ∧ (∀ d ∈ s.hs.held, ∀ c, d.cells = some c → reservationAt t c = none)
      ∧ (∀ c, (∀ d ∈ s.hs.held, d.cells ≠ some c) → (∀ r, ¬ isCut c r) → (∀ r, ¬ drains c r) →
          reservationAt t c = reservationAt s c)
      ∧ (∀ c r, drains c r →
          (r.transmission = .done → reservationAt t c = none)
            ∧ (r.transmission ≠ .done → reservationAt t c = some { r with data := .closed }))
      ∧ t.fu = { s.fu with table := t.fu.table }
      ∧ (∀ c r, isCut c r →
          t.fu.table = orphans (s.fu.table.filter fun f => !samePair f.txn r.txn.requesterId r.txn.tag)
          ∧ ((∃ p, s.dp.sending = some p ∧ p.cells = c) →
              t.dp.sending = none ∧ t.dp.sent = s.dp.sent ++ [.mark .abortMark] ∧ t.gw.grants = s.gw.grants
                ∧ reservationAt t c = none)
          ∧ ((∀ p, s.dp.sending = some p → p.cells ≠ c) →
              t.dp.sending = s.dp.sending ∧ t.dp.sent = s.dp.sent
                ∧ t.gw.grants = (s.gw.grants.map fun x => if x.cells = some c then { x with cut := true } else x)
                ∧ reservationAt t c = some { r with data := .closed })
          ∧ t.gw.lanes
            = (wakes (reports + 1 + (if (flightOf s r.txn.requesterId r.txn.tag).isSome then 1 else 0)) s).gw.lanes)
      ∧ ((∀ c r, ¬ isCut c r) →
          t.fu.table = orphans s.fu.table ∧ t.dp.sending = s.dp.sending ∧ t.dp.sent = s.dp.sent
            ∧ t.gw.grants = s.gw.grants
            ∧ (∀ c r, drains c r → t.gw.lanes = (wakes (reports + 1) s).gw.lanes)
            ∧ ((∀ c r, ¬ drains c r) → t.gw.lanes = (wakes reports s).gw.lanes))
      ∧ t.ce = { s.ce with records := t.ce.records, lent := 0, accumulator := 0, pass := none }
      ∧ (∀ e : EntryIx, t.ce.records[e].formulaRefill = s.ce.records[e].formulaRefill
          ∧ t.ce.records[e].balance
            = if s.rmu.entries[e].enabled then (s.rmu.entries[e].burst : Int) else s.ce.records[e].balance)
      ∧ t.mu = { s.mu with entries := t.mu.entries }
      ∧ (∀ e : EntryIx, t.mu.entries[e] = { s.mu.entries[e] with released := 0, backlog := false, deferrals := 0 })
      ∧ t.gw = { s.gw with lanes := t.gw.lanes, grants := t.gw.grants, readPointers := ⟨0, 0, 0, 0⟩,
                           writePointers := ⟨0, 0, 0, 0⟩ }
      ∧ t.rmu = s.rmu ∧ t.clu = s.clu
      ∧ (let first := evaluatePressure
             { postEvent .upLinkDown none none s with
               hs := { s.hs with held := [],
                                 reservations := s.hs.reservations.filter fun r =>
                                   !(s.hs.held.any (·.cells == some (firstCell r))) } }
         let second := evaluatePressure { first with hs := { first.hs with reservations := t.hs.reservations } }
         let last := if freeCells first < freeCells t then second else first
         t.hs.pressureOn = last.hs.pressureOn ∧ t.mp = last.mp)
      ∧ (∀ a : Nat, readByte t.hs.bytes a = readByte s.hs.bytes a)

/-! ### The arrival disposition -/

/-- R41, R49, R67: a header that passes every check is held: its descriptor joins the tail with the matched entry, the
transaction's fields, the arrival counter as its stamp and, as its fence target, the youngest held transaction of the
same entry and the other kind that overlaps it; the counter advances; the header leaves the queue and its credit goes
back; pool pressure is evaluated on the counts after the hold (R51), the hold is a wake, as is each beat written and
each change of the data state after it (R40, R82), and the packet under way stays as it is (R134). A write whose units
are still to come is given the lowest-numbered free cells, in increasing order (R39). R66: two spans overlap when they
share a byte. R49, R52, R53, R56: a write whose beats already wait in the queue has them written to its cells at the
hold, their credits going back, and is then closed by the event that waits after them: COMPLETE after every byte,
refused PROTOCOL by an end mark too early or the next header, discarded by an abort mark; either way it was held, and
the counter has advanced. R52, R54: queued beats that overfill the write, or follow a short one, refuse it PROTOCOL at
the first of them, and the rest are discarded. (An abort mark after a lost beat: assumption 33; a search that names the
write: assumption 46; a short beat that was lost: assumption 45; a cell byte's place in memory: assumption 3; which
descriptor: assumption 15.) -/
def Obligations.DispositionHoldsTheHead : Prop :=
  (∀ (h : HoldStore) (n : Nat),
      let free := fun c : Nat => c < 256 ∧ c ∉ reservedCells h
      let cells := lowestFreeCells h n
      cells.Pairwise (· < ·) ∧ (∀ c ∈ cells, free c ∧ ∀ x < c, free x → x ∈ cells)
        ∧ cells.length ≤ n ∧ (cells.length < n → ∀ x, free x → x ∈ cells))
    ∧ (∀ a b : Txn, overlap a b = true ↔
      ∃ x : Nat, (a.address.toNat ≤ x ∧ x < a.address.toNat + txnLength a)
        ∧ b.address.toNat ≤ x ∧ x < b.address.toNat + txnLength b)
    ∧ ∀ (s : State) (p : ArrivalPacket) (rest : List ArrivalPacket), s.powered = true → s.up.queue = p :: rest →
    s.up.generated.length < 16 → s.mp.ready = true → (s.hs.stalled = true → s.hs.retryDue = true) →
    requestMalformed p.header = false →
    let e := matchEntry s p.header.requesterId
    let x := txnOf p.header
    inWindow s.rmu.entries[e] x = true →
    pairInUse s p.header.requesterId p.header.tag = false → heldCount s e < s.rmu.entries[e].quota →
    (s.hs.pressureOn = true → (s.rmu.classes.get s.rmu.entries[e].cls).policy = .stall) → 1 ≤ freeDescriptors s →
    let targets := fun d : Descriptor => d.entry = e ∧ d.txn.kind ≠ x.kind ∧ overlap d.txn x = true
    let fenced := fun d : Descriptor =>
      (d.fence = none → ∀ y ∈ s.hs.held, ¬ targets y)
        ∧ (∀ n, d.fence = some n → ∃ older y younger, s.hs.held = older ++ y :: younger ∧ y.number = n ∧ targets y
            ∧ ∀ z ∈ younger, ¬ targets z)
    (x.kind = .read → (s.up.reception = .queued → rest ≠ []) →
        ∃ d, d.entry = e ∧ d.txn = x ∧ d.stamp = s.hs.arrivalCounter ∧ d.cells = none ∧ fenced d
          ∧ (∀ y ∈ s.hs.held, y.number ≠ d.number)
          ∧ exec .disposition s = .next (wake (evaluatePressure
              { s with up := { s.up with queue := rest,
                                         headerAdvertised :=
                                           s.up.headerAdvertised + if s.up.linkUp then 1 else 0 },
                       hs := { s.hs with held := s.hs.held ++ [d], arrivalCounter := s.hs.arrivalCounter + 1,
                                         stalled := false, retryDue := false } })))
      ∧ (x.kind = .write → (txnLength x + 511) / 512 ≤ freeCells s → s.up.reception = .queued → rest = [] →
          p.beats = [] → p.closing = none →
          ∃ d c, d.entry = e ∧ d.txn = x ∧ d.stamp = s.hs.arrivalCounter ∧ d.cells = some c ∧ fenced d
            ∧ (∀ y ∈ s.hs.held, y.number ≠ d.number)
            ∧ exec .disposition s = .next (wake (evaluatePressure
                { s with up := { s.up with queue := [], reception := .cells c,
                                           headerAdvertised :=
                                             s.up.headerAdvertised + if s.up.linkUp then 1 else 0 },
                         hs := { s.hs with held := s.hs.held ++ [d], arrivalCounter := s.hs.arrivalCounter + 1,
                                           reservations :=
                                             s.hs.reservations ++
                                               [⟨x, e, lowestFreeCells s.hs ((txnLength x + 511) / 512), 0,
                                                 .receiving, .pending, p.lostBeat⟩],
                                           stalled := false, retryDue := false } })))
      ∧ (x.kind = .write → (txnLength x + 511) / 512 ≤ freeCells s → PoolLaw s → MemoryLaw s → FenceLaw s →
          WriteLaw s →
          let cells := lowestFreeCells s.hs ((txnLength x + 511) / 512)
          let c := cells.headD 0
          let held := fun (good : List Beat) (u : State) (d : Descriptor) =>
            exec .disposition { s with up := { s.up with queue := { p with beats := good, closing := none } :: rest } }
                = .next u ∧ heldWrite u c = some d
          let pressed := fun (h : HoldStore) (u : State) =>
            evaluatePressure { u with hs := { h with pressureOn := u.hs.pressureOn } }
          let judged := fun (u t : State) => t.hs.pressureOn = u.hs.pressureOn ∧ t.mp = u.mp
          let common := fun (bytes : List Byte) (t : State) =>
            (∀ y, y ≠ c → reservationAt t y = reservationAt s y)
              ∧ (∀ (k : Nat) (hk : k < bytes.length), readByte t.hs.bytes (cellAddress cells k) = bytes[k])
              ∧ (∀ a : Nat, (∀ k < bytes.length, a ≠ cellAddress cells k) →
                  readByte t.hs.bytes a = readByte s.hs.bytes a)
              ∧ t.hs.arrivalCounter = s.hs.arrivalCounter + 1
              ∧ t.up = { s.up with queue := rest,
                                   reception := if s.up.reception = .queued ∧ rest = [] then .cells c
                                                else s.up.reception,
                                   generated := t.up.generated,
                                   headerAdvertised := s.up.headerAdvertised + (if s.up.linkUp then 1 else 0),
                                   dataAdvertised :=
                                     s.up.dataAdvertised + (if s.up.linkUp then p.beats.length else 0) }
              ∧ t.hs.stalled = false ∧ t.hs.retryDue = false
              ∧ t.dp = s.dp ∧ t.gw = { s.gw with lanes := t.gw.lanes }
              ∧ t.rmu = s.rmu ∧ t.ce = s.ce ∧ t.mu = s.mu ∧ t.clu = s.clu ∧ t.fu.table = s.fu.table
          let discarded := fun (n : Nat) (u : State) (d : Descriptor) (t : State) =>
            t.gw.lanes = (wakes n (nameGone d u)).gw.lanes ∧ t.freeUsed = (nameGone d u).freeUsed
          let refused := fun (bytes : List Byte) (t : State) =>
            common bytes t ∧ t.hs.held = s.hs.held
              ∧ t.up.generated = s.up.generated ++ [answerTxn x .protocol]
              ∧ t.fu = { s.fu with
                         counters := s.fu.counters.set e
                           { s.fu.counters[e] with
                             refusals := min (2 ^ 32 - 1) (s.fu.counters[e].refusals + 1) } }
          (∀ good bad more, p.beats = good ++ bad :: more → (∀ b ∈ good.dropLast, b.length = 64) →
              good.flatten.length ≤ txnLength x →
              (txnLength x < good.flatten.length + bad.length ∨ good.flatten.length % 64 ≠ 0) →
              heldWrite s c = none → s.up.linkUp = true →
              ∃ t u d, exec .disposition s = .next t ∧ refused good.flatten t ∧ held good u d
                ∧ (let draining := pressed { u.hs with held := s.hs.held } (postEvent .protocolFault (some e) (some 3) u)
                   (p.closing = none → judged draining t ∧ discarded 1 u d t
                      ∧ reservationAt t c = some ⟨x, e, cells, good.flatten.length, .draining, .done, p.lostBeat⟩)
                    ∧ (p.closing ≠ none → judged (pressed s.hs draining) t ∧ discarded 2 u d t
                      ∧ reservationAt t c = none)))
          ∧ (p.beats.flatten.length ≤ txnLength x → (∀ b ∈ p.beats.dropLast, b.length = 64) →
          let bytes := p.beats.flatten
          let arrives := fun state : DataState =>
            ∃ d t, exec .disposition s = .next t ∧ common bytes t ∧ t.hs.held = s.hs.held ++ [d]
              ∧ d.entry = e ∧ d.txn = x ∧ d.stamp = s.hs.arrivalCounter ∧ d.cells = some c ∧ fenced d
              ∧ (∀ y ∈ s.hs.held, y.number ≠ d.number)
              ∧ reservationAt t c = some ⟨x, e, cells, bytes.length, state, .pending, p.lostBeat⟩
              ∧ t.up.generated = s.up.generated ∧ t.fu = s.fu ∧ judged (pressed t.hs s) t ∧ t.freeUsed = s.freeUsed
              ∧ t.gw.lanes
                = (wakes (1 + p.beats.length + if state = .complete then 1 else 0) s).gw.lanes
          (p.closing = none → arrives .receiving)
            ∧ (p.closing = some .endMark → bytes.length = txnLength x → p.lostBeat = false → arrives .complete)
            ∧ (p.closing = some .abortMark → heldWrite s c = none →
                ∃ t u d, exec .disposition s = .next t ∧ common bytes t ∧ t.hs.held = s.hs.held
                  ∧ reservationAt t c = none ∧ t.up.generated = s.up.generated ∧ t.fu = s.fu
                  ∧ held p.beats u d ∧ judged (pressed s.hs u) t ∧ discarded 1 u d t)
            ∧ ((p.closing = some .nextHeader
                  ∨ (p.closing = some .endMark ∧ (bytes.length ≠ txnLength x ∨ p.lostBeat = true))) →
                heldWrite s c = none → s.up.linkUp = true →
                ∃ t u d, exec .disposition s = .next t ∧ refused bytes t ∧ reservationAt t c = none
                  ∧ held p.beats u d ∧ judged (pressed s.hs (postEvent .protocolFault (some e) (some 3) u)) t
                  ∧ discarded 1 u d t)))

/-- R29, R42 to R48, R50: the checks in their order and what the first that fails does: a malformed header is answered
PROTOCOL with PROTOCOL_FAULT, one outside its entry's window WINDOW and counted, a duplicate pair PROTOCOL and counted,
one past the hold quota, under pressure or beyond the pool DEFER and counted at the Flight Unit and in the entry's open
window, unless the class stalls, when the head stays. Each answer takes the head from the queue and returns its
credits. R3: a request header is malformed if its kind code is not 1h or 2h, its status code not 0h, one of its zero
bits set, or its address + length exceeds 2^48. R28: a span lies within a window when every byte of it does, from the
base's first byte to the limit's last. R45: a pair is in use while a descriptor or a flight entry has it. R4: the
header of a response the part originates is READ response for a READ request and WRITE response for any other, with the
status's code, the request's id, tag, length and address as they stand, and every zero bit zero; a transaction's
request header carries its own fields in the same layout (section 1.2), and is what its answer is built from. R37: a
transaction has its header's fields. -/
def Obligations.DispositionChecksInOrder : Prop :=
  (∀ h : Header, requestMalformed h = true ↔
      (h.kindCode ≠ 1 ∧ h.kindCode ≠ 2) ∨ h.statusCode ≠ 0 ∨ h.tagZeros ≠ 0 ∨ h.lengthZeros ≠ 0 ∨ h.tailZeros ≠ 0
        ∨ 2 ^ 48 < h.address.toNat + (h.lengthMinusOne.toNat + 1))
    ∧ (∀ (c : EntryConfig) (x : Txn), inWindow c x = true ↔
      ∀ a : Nat, x.address.toNat ≤ a → a < x.address.toNat + (x.lengthMinusOne.toNat + 1) →
        c.windowBase.toNat ≤ a / 4096 ∧ a / 4096 ≤ c.windowLimit.toNat)
    ∧ (∀ (s : State) (rid : ReqId) (tag : Tag), pairInUse s rid tag = true ↔
      (∃ d ∈ s.hs.held, d.txn.requesterId = rid ∧ d.txn.tag = tag)
        ∨ ∃ f ∈ s.fu.table, f.txn.requesterId = rid ∧ f.txn.tag = tag)
    ∧ (∀ (h : Header) (x : Txn) (st : Status),
      let code : BitVec 4 := match st with
        | .ok => 0x0
        | .media => 0x1
        | .defer => 0x8
        | .window => 0x9
        | .protocol => 0xA
        | .underrun => 0xB
        | .timeout => 0xC
        | .link => 0xD
      answerHeader h st
          = { kindCode := if h.kindCode = 1 then 0x9 else 0xA, statusCode := code, requesterId := h.requesterId,
              tagZeros := 0, tag := h.tag, lengthZeros := 0, lengthMinusOne := h.lengthMinusOne, address := h.address,
              tailZeros := 0 }
        ∧ requestHeader x
          = { kindCode := if x.kind = .read then 1 else 2, statusCode := 0, requesterId := x.requesterId,
              tagZeros := 0, tag := x.tag, lengthZeros := 0, lengthMinusOne := x.lengthMinusOne, address := x.address,
              tailZeros := 0 }
        ∧ answerTxn x st = answerHeader (requestHeader x) st
        ∧ txnOf h
          = { kind := if h.kindCode = 2 then .write else .read, requesterId := h.requesterId, tag := h.tag,
              address := h.address, lengthMinusOne := h.lengthMinusOne }
        ∧ txnLength x = x.lengthMinusOne.toNat + 1)
    ∧ ∀ (s : State) (p : ArrivalPacket) (rest : List ArrivalPacket), s.powered = true → s.up.linkUp = true →
    s.up.queue = p :: rest → s.up.generated.length < 16 → s.mp.ready = true →
    (s.hs.stalled = true → s.hs.retryDue = true) →
    let e := matchEntry s p.header.requesterId
    let x := txnOf p.header
    let policy := (s.rmu.classes.get s.rmu.entries[e].cls).policy
    let noRoom := freeDescriptors s = 0 ∨ (x.kind = .write ∧ freeCells s < (txnLength x + 511) / 512)
    let answered := fun st : Status =>
      { s with up := { s.up with queue := rest,
                                 reception := if s.up.reception = .queued ∧ rest = [] then .answered
                                              else s.up.reception,
                                 generated := s.up.generated ++ [answerHeader p.header st],
                                 headerAdvertised := s.up.headerAdvertised + 1,
                                 dataAdvertised := s.up.dataAdvertised + p.beats.length },
               hs := { s.hs with stalled := false, retryDue := false } }
    let counted := fun f : Counters → Counters =>
      { s.fu with counters := s.fu.counters.set e (f s.fu.counters[e]) }
    let refused := counted fun c => { c with refusals := min (2 ^ 32 - 1) (c.refusals + 1) }
    let deferred :=
      { answered .defer with
        fu := counted fun c => { c with deferrals := min (2 ^ 32 - 1) (c.deferrals + 1) },
        mu := { s.mu with
                entries := s.mu.entries.set e
                  { s.mu.entries[e] with deferrals := min 65535 (s.mu.entries[e].deferrals + 1), backlog := true } } }
    (requestMalformed p.header = true →
        exec .disposition s = .next (postEvent .protocolFault none (some 1) (answered .protocol)))
      ∧ (requestMalformed p.header = false →
        (inWindow s.rmu.entries[e] x = false →
            exec .disposition s = .next { answered .window with fu := refused })
          ∧ (inWindow s.rmu.entries[e] x = true →
            (pairInUse s p.header.requesterId p.header.tag = true →
                exec .disposition s
                  = .next (postEvent .protocolFault (some e) (some 2) { answered .protocol with fu := refused }))
              ∧ (pairInUse s p.header.requesterId p.header.tag = false →
                (s.rmu.entries[e].quota ≤ heldCount s e → exec .disposition s = .next deferred)
                  ∧ (s.hs.pressureOn = true → policy = .defer → exec .disposition s = .next deferred)
                  ∧ (noRoom → policy = .defer → exec .disposition s = .next deferred)
                  ∧ (noRoom → policy = .stall → heldCount s e < s.rmu.entries[e].quota →
                      exec .disposition s
                        = .next { s with hs := { s.hs with stalled := true, retryDue := false } }))))

/-! ### The downstream port -/

/-- R1, R3, R9, R127, R128: a response header that no response is under way before takes a place; an OK READ response
then waits for its beats; any other is matched at once to the flight entry AWAITING with its pair and kind, which is
removed, which is a wake (R82), the response becoming whole (an orphan's is discarded), or, with none, is late and
discarded with LATE_RESPONSE. One that breaks the header's form is discarded with PROTOCOL_FAULT. R2, R3, R9: a beat of
the response under way takes a place; the last one makes the response whole; one of the wrong size shows the response
malformed, and its places are freed with PROTOCOL_FAULT. A header or a beat without a place is discarded with
PROTOCOL_FAULT, the response the beat belongs to with it; a header before the last beat ends that response as malformed
and is then taken itself. A beat without a response is stray. A mark from memory is stray, and after a response found
malformed at a beat it is discarded quietly. (Places by occupancy: assumption 19; the quiet mark: assumption 20; a
stray beat without a place, and the quiet beat: assumption 35.) -/
def Obligations.ResponsesFromMemory : Prop :=
  (∀ h : Header, responseMalformed h = true ↔
      (h.kindCode ≠ 9 ∧ h.kindCode ≠ 10) ∨ (h.statusCode ≠ 0 ∧ h.statusCode ≠ 1) ∨ h.tagZeros ≠ 0
        ∨ h.lengthZeros ≠ 0 ∨ h.tailZeros ≠ 0)
    ∧ (∀ (s : State) (h : Header),
      let answers := fun f : FlightEntry =>
        f.phase = .awaiting ∧ f.txn.requesterId = h.requesterId ∧ f.txn.tag = h.tag
          ∧ h.kindCode = if f.txn.kind = .read then 9 else 10
      (responseMatch s h = none ↔ ∀ f ∈ s.fu.table, ¬ answers f)
        ∧ (∀ f, responseMatch s h = some f → f ∈ s.fu.table ∧ answers f))
    ∧ (∀ (s : State) (h : Header), s.powered = true → s.dp.linkUp = true →
      (∀ r, s.dp.reception = .receiving r →
          exec (.responseHeaderArrival h) s
            = exec (.responseHeaderArrival h) (postEvent .protocolFault none (some 6)
                { s with dp := { s.dp with reception := .stray, headerAdvertised := s.dp.headerAdvertised + 1,
                                           dataAdvertised := s.dp.dataAdvertised + r.beats.length } }))
        ∧ (s.dp.reception = .discarding →
          exec (.responseHeaderArrival h) s
            = exec (.responseHeaderArrival h) { s with dp := { s.dp with reception := .stray } })
        ∧ (s.dp.reception = .stray → 4 ≤ s.dp.whole.length →
          exec (.responseHeaderArrival h) s
            = .next (postEvent .protocolFault none (some 6)
                { s with dp := { s.dp with headerAdvertised := s.dp.headerAdvertised - 1 } })))
    ∧ (∀ (s : State) (h : Header), s.powered = true → s.dp.linkUp = true → s.dp.reception = .stray →
    s.dp.whole.length < 4 → 1 ≤ s.dp.headerAdvertised →
    (responseMalformed h = false → carriesData h = true →
        exec (.responseHeaderArrival h) s
          = .next { s with dp := { s.dp with reception := .receiving ⟨h, []⟩,
                                             headerAdvertised := s.dp.headerAdvertised - 1 } })
      ∧ (responseMalformed h = false → carriesData h = false → ∀ f, responseMatch s h = some f → PairLaw s →
          ∃ t, exec (.responseHeaderArrival h) s = .next t
            ∧ f ∈ s.fu.table ∧ f.phase = .awaiting ∧ f.txn.requesterId = h.requesterId ∧ f.txn.tag = h.tag
            ∧ h.kindCode = (if f.txn.kind = .read then 9 else 10)
            ∧ t = { s with fu := { s.fu with table := s.fu.table.erase f }, gw := (wake s).gw,
                           dp := { s.dp with whole := if f.orphan then s.dp.whole else s.dp.whole ++ [⟨h, []⟩],
                                             headerAdvertised :=
                                               if f.orphan then s.dp.headerAdvertised
                                               else s.dp.headerAdvertised - 1 } })
      ∧ (responseMalformed h = false → carriesData h = false → responseMatch s h = none →
          exec (.responseHeaderArrival h) s
            = .next (postEvent .lateResponse (some (matchEntry s h.requesterId))
                (some (h.requesterId.toNat * 65536 + h.tag.toNat)) s))
      ∧ (responseMalformed h = true →
          exec (.responseHeaderArrival h) s = .next (postEvent .protocolFault none (some 6) s)))
    ∧ (∀ (s : State), s.powered = true → s.dp.linkUp = true →
    (∀ (r : Response) (b : Beat), s.dp.reception = .receiving r → beatPlacesTaken s.dp < 64 →
        1 ≤ s.dp.dataAdvertised →
        let n := r.beats.length + 1
        (b.length = beatSize (headerLength r.header) n → n < beatsOf (headerLength r.header) →
            exec (.responseBeatArrival b) s
              = .next { s with dp := { s.dp with reception := .receiving { r with beats := r.beats ++ [b] },
                                                 dataAdvertised := s.dp.dataAdvertised - 1 } })
          ∧ (∀ f, b.length = beatSize (headerLength r.header) n → n = beatsOf (headerLength r.header) →
              responseMatch s r.header = some f → f.orphan = false → PairLaw s →
              ∃ t, exec (.responseBeatArrival b) s = .next t
                ∧ t = { s with fu := { s.fu with table := s.fu.table.erase f },
                               gw := (wake s).gw,
                               dp := { s.dp with whole := s.dp.whole ++ [{ r with beats := r.beats ++ [b] }],
                                                 reception := .stray,
                                                 dataAdvertised := s.dp.dataAdvertised - 1 } })
          ∧ (∀ f, b.length = beatSize (headerLength r.header) n → n = beatsOf (headerLength r.header) →
              responseMatch s r.header = some f → f.orphan = true → PairLaw s →
              ∃ t, exec (.responseBeatArrival b) s = .next t
                ∧ t = { s with fu := { s.fu with table := s.fu.table.erase f },
                               gw := (wake s).gw,
                               dp := { s.dp with reception := .stray,
                                                 headerAdvertised := s.dp.headerAdvertised + 1,
                                                 dataAdvertised := s.dp.dataAdvertised + r.beats.length } })
          ∧ (b.length = beatSize (headerLength r.header) n → n = beatsOf (headerLength r.header) →
              responseMatch s r.header = none →
              exec (.responseBeatArrival b) s
                = .next (postEvent .lateResponse (some (matchEntry s r.header.requesterId))
                    (some (r.header.requesterId.toNat * 65536 + r.header.tag.toNat))
                    { s with dp := { s.dp with reception := .stray,
                                               headerAdvertised := s.dp.headerAdvertised + 1,
                                               dataAdvertised := s.dp.dataAdvertised + r.beats.length } }))
          ∧ (b.length ≠ beatSize (headerLength r.header) n →
              exec (.responseBeatArrival b) s
                = .next (postEvent .protocolFault none (some 6)
                    { s with dp := { s.dp with reception := .discarding,
                                               headerAdvertised := s.dp.headerAdvertised + 1,
                                               dataAdvertised := s.dp.dataAdvertised + r.beats.length } })))
      ∧ (∀ (r : Response) (b : Beat), s.dp.reception = .receiving r → 64 ≤ beatPlacesTaken s.dp →
          exec (.responseBeatArrival b) s
            = .next (postEvent .protocolFault none (some 6)
                { s with dp := { s.dp with reception := .discarding,
                                           headerAdvertised := s.dp.headerAdvertised + 1,
                                           dataAdvertised := s.dp.dataAdvertised - 1 + r.beats.length } }))
      ∧ (∀ b : Beat, let spent := s.dp.dataAdvertised - 1
          let after :=
            { s with dp := { s.dp with dataAdvertised := if beatPlacesTaken s.dp < 64 then spent + 1 else spent } }
          (s.dp.reception = .stray →
              exec (.responseBeatArrival b) s = .next (postEvent .protocolFault none (some 4) after))
            ∧ (s.dp.reception = .discarding → exec (.responseBeatArrival b) s = .next after))
      ∧ (∀ m : Mark, s.dp.reception ≠ .discarding →
          exec (.responseMarkArrival m) s = .next (postEvent .protocolFault none (some 4) s))
      ∧ (∀ m : Mark, s.dp.reception = .discarding → exec (.responseMarkArrival m) s = .next s))

/-- R8, R13, R73, R74, R96: the downstream arbiter chooses a granted release only while the link is up, nothing is
being sent, memory's credits for the whole packet are held, no earlier release of another lane is of its own hold list
or overlaps it as its predecessor, and, in BYPASS, the drain lane holds it; and it chooses one whenever one is ready.
When only active lanes are ready and the read and the write lane both are, the write lane goes next if the read lane
sent last, and the read lane otherwise, also when none has sent; while a lane that only keeps its release is among the
ready ones, the earliest release of them goes first. (How a predecessor is found: assumption 16; the credits of a cut
release: assumption 26; one list in two lanes: assumption 39; three lanes ready: assumption 34.) -/
def Obligations.LinkArbiterChoosesAReadyRelease : Prop :=
  ∀ (s : State), GrantLaw s →
    let ready := fun (earlier : List Grant) (g : Grant) =>
      s.dp.sending = none ∧ s.dp.linkUp = true ∧ 1 ≤ s.dp.headerCredits ∧ requestBeats g.txn ≤ s.dp.dataCredits
        ∧ (effectiveMode s = .bypass → g.holder = .drain)
        ∧ ∀ x ∈ earlier, x.entry = g.entry → x.txn.kind ≠ g.txn.kind ∧ overlap x.txn g.txn = false
    let isReady := fun g : Grant => ∃ earlier later, s.gw.grants = earlier ++ g :: later ∧ ready earlier g
    (∀ g, chooseGrant s = some g → isReady g)
      ∧ (∀ g, isReady g → chooseGrant s ≠ none)
      ∧ (∀ g h, isReady g → isReady h → g.holder = .read → h.holder = .write →
          (∀ x, isReady x → x.holder ∈ lanesActive s) →
          chooseGrant s = some (if s.dp.lastLane = some .read then h else g))
      ∧ (∀ earlier g later, s.gw.grants = earlier ++ g :: later → ready earlier g → (∀ x ∈ earlier, ¬ isReady x) →
          (∃ y, isReady y ∧ y.holder ∉ lanesActive s) → chooseGrant s = some g)

/-- R8, R14, R92, R96, R125, R126, R140: the packet the arbiter chooses begins: its header goes on the link for one
header credit and its release leaves the lane; in BYPASS the drain lane then takes over the release left in another
lane that was released first. R77, R78, R81, R82, R94, R97: a walking lane's visit is done, and it moves to its next
slot, waits for its partner under SPLIT_LOCKED, or ends its round, beginning the next one, waiting in IDLE or taking a
changeover that is now due; a lane in no round goes on waiting; in HALTED the lane is STOPPED, the drain lane once it
has no more to take over; otherwise the drain lane searches; an inactive lane is IDLE; and every other lane stays as it
is. That all this comes in the step in which the packet begins is the model's own reading (assumption 22), and so is
that a changeover which is due is taken as the round ends (assumption 21). A READ request ends with its header, its
flight entry AWAITING under the response timer; a WRITE request goes on being sent, its flight entry SENDING; a cut
release ends with an abort mark. R48, R51, R59: where that frees the write's cells, pressure is evaluated on the counts
after it and a stalled head's retry becomes due; the reservations of other writes stay. (The record of what was sent:
assumption 18.) -/
def Obligations.PacketsBeginWithTheirHeader : Prop :=
  ∀ (s : State) (g : Grant), s.powered = true → PoolLaw s → chooseGrant s = some g →
    let granted := fun (f : FlightEntry) (after : FlightEntry) =>
      if f.txn.requesterId = g.txn.requesterId ∧ f.txn.tag = g.txn.tag ∧ f.phase = .granted then after else f
    let others := s.gw.grants.filter fun x => x.holder != g.holder
    let kept := fun t : State => t.hs.pressureOn = s.hs.pressureOn ∧ t.hs.retryDue = s.hs.retryDue ∧ t.mp = s.mp
    let freed := fun t : State =>
      let judged := evaluatePressure { s with hs := { t.hs with pressureOn := s.hs.pressureOn } }
      t.hs.pressureOn = judged.hs.pressureOn ∧ t.hs.retryDue = (s.hs.retryDue || s.hs.stalled) ∧ t.mp = judged.mp
    ∃ t, exec .packetBegin s = .next t
      ∧ (effectiveMode s = .regulate → t.gw.grants = others)
      ∧ (effectiveMode s = .bypass → others = [] → t.gw.grants = [])
      ∧ (∀ x rest, effectiveMode s = .bypass → others = x :: rest →
          t.gw.grants = { x with holder := .drain } :: rest ∧ laneState t .drain = .waitingLink)
      ∧ t.gw = { s.gw with grants := t.gw.grants, lanes := t.gw.lanes, appliedSplit := t.gw.appliedSplit,
                           appliedPacing := t.gw.appliedPacing }
      ∧ (let l := g.holder
         let x := s.gw.lanes.get l
         let moved := fun y : Lane =>
           t.gw.lanes = s.gw.lanes.set l y ∧ t.gw.appliedSplit = s.gw.appliedSplit
             ∧ t.gw.appliedPacing = s.gw.appliedPacing
         let ended := { s with gw := { s.gw with grants := others,
                                                 lanes := s.gw.lanes.set l { x with motion := .idle, held := true } } }
         (l ∉ lanesActive s → moved { x with motion := .idle })
           ∧ (l ∈ lanesActive s →
             (l = .drain → others ≠ [] → moved x)
               ∧ (s.mp.mode = .halted → ¬ (l = .drain ∧ others ≠ []) → moved { x with motion := .stopped })
               ∧ (s.mp.mode ≠ .halted → l = .drain → others = [] → moved { x with motion := .walking })
               ∧ (s.mp.mode ≠ .halted → l ≠ .drain →
                 (x.motion ≠ .walking → moved x)
                   ∧ (x.motion = .walking → s.gw.appliedSplit = .splitLocked → moved { x with phase := .done })
                   ∧ (x.motion = .walking → s.gw.appliedSplit ≠ .splitLocked →
                     (x.slot ≠ lastSlot l → moved { x with slot := x.slot + 1, phase := .arrive })
                       ∧ (x.slot = lastSlot l → ¬ Differ s →
                         moved (if s.gw.appliedPacing = .continuous ∧ (x.released = true ∨ x.woken = true) then
                                  begunLane l false
                                else { x with motion := .idle }))
                       ∧ (x.slot = lastSlot l → Differ s →
                         (¬ ChangeoverDue ended → moved { x with motion := .idle, held := true })
                           ∧ (ChangeoverDue ended → ChangedOver ended t))))))
      ∧ t.up = s.up ∧ t.rmu = s.rmu ∧ t.ce = s.ce ∧ t.mu = s.mu ∧ t.clu = s.clu
      ∧ t.hs = { s.hs with reservations := t.hs.reservations, pressureOn := t.hs.pressureOn, retryDue := t.hs.retryDue }
      ∧ (∀ x, g.cells ≠ some x → reservationAt t x = reservationAt s x)
      ∧ (∀ a : Nat, readByte t.hs.bytes a = readByte s.hs.bytes a)
      ∧ (g.cells = none →
          t.hs = s.hs ∧ t.mp = s.mp
          ∧ t.dp = { s.dp with headerCredits := s.dp.headerCredits - 1, lastLane := some g.holder,
                               sent := s.dp.sent ++ [.header (requestHeader g.txn)] }
          ∧ ((∀ f ∈ s.fu.table, f.txn.requesterId = g.txn.requesterId → f.txn.tag = g.txn.tag →
                f.phase = .granted) →
              t.fu = { s.fu with
                       table := s.fu.table.map fun f =>
                         granted f { f with phase := .awaiting,
                                            timer := if s.fu.responseTimeout = 0 then none
                                                     else some s.fu.responseTimeout } }))
      ∧ (∀ c r, g.cells = some c → g.cut = false → reservationAt s c = some r →
          kept t
          ∧ t.dp = { s.dp with headerCredits := s.dp.headerCredits - 1, lastLane := some g.holder,
                               sent := s.dp.sent ++ [.header (requestHeader g.txn)],
                               sending := some ⟨g.txn, g.entry, c, 0, false⟩ }
          ∧ reservationAt t c = some { r with transmission := .sending }
          ∧ t.fu = { s.fu with table := s.fu.table.map fun f => granted f { f with phase := .sending } })
      ∧ (∀ c r, g.cells = some c → g.cut = true → reservationAt s c = some r →
          t.fu = s.fu
          ∧ t.dp = { s.dp with headerCredits := s.dp.headerCredits - 1, lastLane := some g.holder,
                               sent := s.dp.sent ++ [.header (requestHeader g.txn), .mark .abortMark] }
          ∧ (r.data = .receiving ∨ r.data = .draining →
              reservationAt t c = some { r with transmission := .done } ∧ kept t)
          ∧ (r.data = .complete ∨ r.data = .closed → reservationAt t c = none ∧ freed t))

/-- R8, R134: the Downstream Port sends its next beat from the write's cells as soon as its bytes are there, spending a
data credit, and the end mark once the write's data is COMPLETE, which ends the packet, frees its cells and puts its
flight entry in AWAITING; a unit that is not ready starts an underrun wait. R48, R51, R59: as the cells are freed,
pressure is evaluated on the counts after it and a stalled head's retry becomes due; the reservations of other writes
stay. (The record of what was sent: assumption 18.) -/
def Obligations.UnitsAreSentAsTheyBecomeReady : Prop :=
  ∀ (s : State) (p : Sending) (r : Reservation), s.powered = true → PoolLaw s → s.dp.sending = some p →
    reservationAt s p.cells = some r → p.txn.kind = .write →
    let length := txnLength p.txn
    let n := (length + 63) / 64
    (p.beatsSent < n → min (64 * (p.beatsSent + 1)) length ≤ r.received →
        exec .dpUnitSend s
          = .next { s with dp := { s.dp with
                                   dataCredits := s.dp.dataCredits - 1,
                                   sending := some { p with beatsSent := p.beatsSent + 1, waiting := false },
                                   sent := s.dp.sent ++
                                     [.beat (readBytes r.cells s.hs.bytes (64 * p.beatsSent)
                                       (min 64 (length - 64 * p.beatsSent)))] } })
      ∧ (n ≤ p.beatsSent → r.data = .complete →
          ∃ t, exec .dpUnitSend s = .next t
            ∧ t.dp = { s.dp with sending := none, sent := s.dp.sent ++ [.mark .endMark] }
            ∧ reservationAt t p.cells = none ∧ (∀ x, x ≠ p.cells → reservationAt t x = reservationAt s x)
            ∧ (let judged := evaluatePressure { s with hs := { t.hs with pressureOn := s.hs.pressureOn } }
               t.hs = { s.hs with reservations := t.hs.reservations, pressureOn := judged.hs.pressureOn,
                                  retryDue := s.hs.retryDue || s.hs.stalled }
                ∧ t.mp = judged.mp)
            ∧ (∀ a : Nat, readByte t.hs.bytes a = readByte s.hs.bytes a)
            ∧ t.fu = { s.fu with
                       table := s.fu.table.map fun f =>
                         if f.txn.requesterId = p.txn.requesterId ∧ f.txn.tag = p.txn.tag ∧ f.phase = .sending then
                           { f with phase := .awaiting,
                                    timer := if s.fu.responseTimeout = 0 then none else some s.fu.responseTimeout }
                         else f }
            ∧ t.up = s.up ∧ t.gw = s.gw ∧ t.rmu = s.rmu ∧ t.ce = s.ce ∧ t.mu = s.mu ∧ t.clu = s.clu)
      ∧ ((p.beatsSent < n ∧ r.received < min (64 * (p.beatsSent + 1)) length) ∨ (n ≤ p.beatsSent ∧ r.data ≠ .complete) →
          exec .dpUnitSend s = .next { s with dp := { s.dp with sending := some { p with waiting := true } } })

/-- R129, R132, R135, R136: an underrun wait that runs out ends the packet with an abort mark, removes and answers the
flight entry UNDERRUN and leaves the write DRAINING; a response timer that runs out removes the flight entry, counts a
timeout and answers TIMEOUT. R40, R82: the removal is a wake, and so is the change to DRAINING. An orphan is answered
by neither, and while the upstream link is down an answer is discarded (R11). (The record of what was sent: assumption
18.) -/
def Obligations.UnderrunsAndTimeoutsEndTheFlight : Prop :=
  (∀ (s : State) (p : Sending) (r : Reservation) (f : FlightEntry), s.powered = true →
      s.dp.sending = some p → p.waiting = true → nextUnitReady s p = false → reservationAt s p.cells = some r →
      flightOf s p.txn.requesterId p.txn.tag = some f →
      ∃ t, exec .underrun s = .next t
        ∧ t.dp = { s.dp with sending := none, sent := s.dp.sent ++ [.mark .abortMark] }
        ∧ reservationAt t p.cells = some { r with data := .draining, transmission := .done }
        ∧ t.fu = { s.fu with
                   table := s.fu.table.filter fun x => !samePair x.txn p.txn.requesterId p.txn.tag }
        ∧ t.up = { s.up with generated :=
                     if f.orphan = false ∧ s.up.linkUp = true then s.up.generated ++ [answerTxn f.txn .underrun]
                     else s.up.generated }
        ∧ t.mp = (postEvent .underrun (some p.entry)
                    (some (p.txn.requesterId.toNat * 65536 + p.txn.tag.toNat)) s).mp
        ∧ (∀ x, x ≠ p.cells → reservationAt t x = reservationAt s x)
        ∧ t.hs = { s.hs with reservations := t.hs.reservations } ∧ t.gw = (wakes 2 s).gw
        ∧ t.rmu = s.rmu ∧ t.ce = s.ce ∧ t.mu = s.mu ∧ t.clu = s.clu)
    ∧ (∀ (s : State) (rid : ReqId) (tag : Tag) (f : FlightEntry) (n : Nat), s.powered = true →
        flightOf s rid tag = some f → f.phase = .awaiting → f.timer = some n →
        ∃ t, exec (.responseTimerExpiry rid tag) s = .next t
          ∧ t.fu = { s.fu with
                     table := s.fu.table.filter (fun x => !samePair x.txn rid tag),
                     counters := s.fu.counters.set f.entry
                       { s.fu.counters[f.entry] with
                         timeouts := min (2 ^ 32 - 1) (s.fu.counters[f.entry].timeouts + 1) } }
          ∧ t.up = { s.up with generated :=
                       if f.orphan = false ∧ s.up.linkUp = true then s.up.generated ++ [answerTxn f.txn .timeout]
                       else s.up.generated }
          ∧ t.mp = (postEvent .responseExpired (some f.entry) (some (rid.toNat * 65536 + tag.toNat)) s).mp
          ∧ t.gw = (wake s).gw
          ∧ t.hs = s.hs ∧ t.dp = s.dp ∧ t.rmu = s.rmu ∧ t.ce = s.ce ∧ t.mu = s.mu ∧ t.clu = s.clu)

/-- R18, R62, R98, R133: the downstream link going down stops the port where it stands, drops every granted release,
stops the active lanes, and removes every flight entry, answering LINK for each that is no orphan (while the upstream
link is down such an answer is discarded, R11); DOWN_LINK_DOWN is posted; a write that was being sent, or whose granted release is dropped, is DONE, its cells freed if its reception has
ended; R48, R51, R59: each such freeing, the cut packet's first, evaluates pressure on the counts after it and makes a
stalled head's retry due; held transactions, balances and meters stay. R19, R97, R98: the downstream link coming up
forgets the lane last sent and advertises a credit for each free place of the response buffer; R77: a changeover that
is due is taken; an active STOPPED wheel lane begins a round at its first slot in CONTINUOUS pacing, and waits in IDLE
in PACED; the drain lane searches; while HALTED they stay STOPPED. (The order of the LINK answers and of the freeings:
assumption 4.) -/
def Obligations.DownLinkDownAndUp : Prop :=
  (∀ s : State, s.powered = true → s.dp.linkUp = true →
    ∃ t, exec .downLinkDown s = .next t
      ∧ t.dp = { s.dp with linkUp := false, headerCredits := 0, dataCredits := 0, headerAdvertised := 0,
                           dataAdvertised := 0, reception := .stray, sending := none }
      ∧ t.fu = { s.fu with table := [] }
      ∧ t.up = { s.up with generated :=
                   if s.up.linkUp then
                     s.up.generated ++ (s.fu.table.filter (fun f => !f.orphan)).map fun f => answerTxn f.txn .link
                   else s.up.generated }
      ∧ t.gw = { s.gw with grants := [], lanes := t.gw.lanes }
      ∧ (∀ l ∈ lanesActive s, laneState t l = .stopped) ∧ (∀ l, l ∉ lanesActive s → laneState t l = .idle)
      ∧ t.hs = { s.hs with reservations := t.hs.reservations, pressureOn := t.hs.pressureOn,
                           retryDue := t.hs.retryDue }
      ∧ (∀ a : Nat, readByte t.hs.bytes a = readByte s.hs.bytes a)
      ∧ (∀ r ∈ t.hs.reservations, ∀ p, s.dp.sending = some p → firstCell r = p.cells → r.transmission = .done)
      ∧ (let ended := fun c : Nat => (∃ p, s.dp.sending = some p ∧ p.cells = c) ∨ ∃ g ∈ s.gw.grants, g.cells = some c
         (∀ c r, ended c → PoolLaw s → reservationAt s c = some r →
            (r.data = .complete ∨ r.data = .closed → reservationAt t c = none)
              ∧ (r.data = .receiving ∨ r.data = .draining →
                  reservationAt t c = some { r with transmission := .done }))
           ∧ (∀ c, ¬ ended c → reservationAt t c = reservationAt s c))
      ∧ (PoolLaw s →
          let order := (s.dp.sending.map (·.cells)).toList ++ s.gw.grants.filterMap (·.cells)
          let ends := fun (u : State) (c : Nat) =>
            if (reservationAt u c).any (fun r => r.data == .complete || r.data == .closed) then
              evaluatePressure
                { u with hs := { u.hs with reservations := u.hs.reservations.filter fun r => firstCell r != c } }
            else u
          let judged := order.foldl ends (postEvent .downLinkDown none none s)
          t.hs.pressureOn = judged.hs.pressureOn ∧ t.mp = judged.mp
            ∧ t.hs.retryDue = (s.hs.retryDue || (s.hs.stalled && decide (freeCells s < freeCells t))))
      ∧ t.mp = { s.mp with events := t.mp.events, eventLost := t.mp.eventLost }
      ∧ (∃ more, t.mp.events = (postEvent .downLinkDown none none s).mp.events ++ more
          ∧ ∀ r ∈ more, r.kind = .poolPressureOn ∨ r.kind = .poolPressureOff)
      ∧ t.rmu = s.rmu ∧ t.ce = s.ce ∧ t.mu = s.mu ∧ t.clu = s.clu)
    ∧ (∀ s : State, s.powered = true → s.dp.linkUp = false →
    ∃ t, exec .downLinkUp s = .next t
      ∧ t.dp = { s.dp with linkUp := true, lastLane := none, reception := .stray,
                           headerAdvertised := 4 - s.dp.whole.length,
                           dataAdvertised := 64 - (s.dp.whole.map (·.beats.length)).sum }
      ∧ t = { s with dp := t.dp, gw := { s.gw with lanes := t.gw.lanes, appliedSplit := t.gw.appliedSplit,
                                                   appliedPacing := t.gw.appliedPacing } }
      ∧ LanesStarted { s with dp := t.dp } t)


/-! ### The Grant Wheel -/

/-- R68, R85 to R89: a wheel lane's head of an entry is the head of its read or write list, if the entry is enabled,
the head is unfenced with its data ready (a read has none to wait for; a write's is COMPLETE, or its class allows
cut-through and its start mark has been received), the balance is 0 or more, the entry is below its flight cap and the
Flight Table has room; the SHARED lane takes the older of two, a read before a write of equal age. The rescue scan
serves the first entry with such a head of the rescue list, or of what is left of it, the class search the first
enabled entry of the class, in index order from the one after the lane's rotation pointer; a PRIME slot has no rescue
scan. R91: where the next visit of the lane that releases a discarded transaction's kind would name it, the visit's
search may have named it before the discard, and then stands at the entry after it in the order of the step it is in;
under SPLIT_LOCKED both lanes have then come to their slots. Nothing else of the part changes by that. A discard of
several transactions, by a disable or a soft reset, is one act, before which each of them that a visit would name may
have been named. (A free value decides: assumption 46.) -/
def Obligations.SearchesServeInOrder : Prop :=
  ∀ (s : State),
    let ready := fun d : Descriptor =>
      d.cells = none ∨ ∃ c r, d.cells = some c ∧ reservationAt s c = some r
        ∧ (r.data = .complete ∨ ((s.rmu.classes.get s.rmu.entries[d.entry].cls).cutThrough = true
            ∧ (s.rmu.classes.get s.rmu.entries[d.entry].cls).startMark ≤ r.received))
    let mayGo := fun d : Descriptor =>
      s.rmu.entries[d.entry].enabled = true ∧ d.fence = none ∧ ready d
        ∧ 0 ≤ s.ce.records[d.entry].balance ∧ flightCount s d.entry < s.rmu.entries[d.entry].flightCap
        ∧ s.fu.table.length < 256
    (∀ (e : EntryIx) (d : Descriptor),
        (laneHead s .read e = some d ↔ headOf s e .read = some d ∧ mayGo d)
          ∧ (laneHead s .write e = some d ↔ headOf s e .write = some d ∧ mayGo d)
          ∧ (laneHead s .shared e = some d ↔
              (headOf s e .read = some d ∧ mayGo d
                ∧ ∀ w, headOf s e .write = some w → mayGo w → ageOf s w ≤ ageOf s d)
              ∨ (headOf s e .write = some d ∧ mayGo d
                ∧ ∀ r, headOf s e .read = some r → mayGo r → ageOf s r < ageOf s d)))
      ∧ (∀ (l : LaneName) (es : List EntryIx) (d : Descriptor),
        rescueScan s l es = some d ↔
          ∃ before e after, es = before ++ e :: after ∧ laneHead s l e = some d ∧ ∀ x ∈ before, laneHead s l x = none)
      ∧ (∀ (l : LaneName) (c : SvcClass) (es : List EntryIx) (d : Descriptor),
        let serves := fun (e : EntryIx) (d : Descriptor) =>
          s.rmu.entries[e].cls = c ∧ s.rmu.entries[e].enabled = true ∧ laneHead s l e = some d
        classSearch s l c es = some d ↔
          ∃ before e after, es = before ++ e :: after ∧ serves e d ∧ ∀ x ∈ before, ∀ y, ¬ serves x y)
      ∧ (∀ (l : LaneName) (c : SvcClass),
        let pointer := if l = .write then s.gw.writePointers.get c else s.gw.readPointers.get c
        slotSearch s l c
          = { cls := c, rescue := if c = .prime then [] else s.mu.rescueList,
              order := (List.finRange 48).map fun k => pointer + 1 + k })
      ∧ (∀ d : Descriptor,
        let l := if s.gw.appliedSplit = .shared then LaneName.shared else if d.txn.kind = .read then .read else .write
        let lane := s.gw.lanes.get l
        let slot := s.gw.slots[lane.slot]
        let arriving := s.gw.appliedSplit = .splitLocked ∧ lane.phase = .arrive
        let stands := fun p : SearchPlace =>
          l ∈ wheelLanes s ∧ laneState s l = .walking ∧ s.mp.mode ≠ .halted ∧ s.dp.linkUp = true
            ∧ (lane.phase = .searching p
              ∨ (s.gw.appliedSplit = .splitLocked ∧ ∃ c, lane.phase = .visiting c ∧ p = slotSearch s l c)
              ∨ (arriving ∧ s.gw.slots[s.gw.lanes.read.slot].enabled = true
                  ∧ s.gw.slots[s.gw.lanes.write.slot].enabled = true ∧ p = slotSearch s l slot.cls)
              ∨ (s.gw.appliedSplit ≠ .splitLocked ∧ (∀ q, lane.phase ≠ .searching q) ∧ slot.enabled = true
                  ∧ p = slotSearch s l slot.cls))
        let names := fun p q : SearchPlace =>
          (rescueScan s l p.rescue = some d
              ∧ ∃ before, d.entry ∉ before ∧ p.rescue = before ++ d.entry :: q.rescue ∧ q.order = p.order ∧ q.cls = p.cls)
            ∨ (rescueScan s l p.rescue = none ∧ classSearch s l p.cls p.order = some d
              ∧ ∃ before, d.entry ∉ before ∧ p.order = before ++ d.entry :: q.order ∧ q.rescue = [] ∧ q.cls = p.cls)
        let come := fun x : Lane =>
          if arriving ∧ x.phase = .arrive then { x with phase := .visiting s.gw.slots[x.slot].cls } else x
        let arrived := { s.gw.lanes with read := come s.gw.lanes.read, write := come s.gw.lanes.write }
        ((∀ p q, stands p → ¬ names p q) → nameGone d s = s ∧ wouldName s d = false)
          ∧ (∀ p q, stands p → names p q →
            wouldName s d = true ∧ (nameGone d s = { s with freeUsed := s.freeUsed + 1 }
              ∨ nameGone d s = { s with freeUsed := s.freeUsed + 1,
                                        gw := { s.gw with
                                                lanes := arrived.set l { lane with phase := .searching q } } })))
      ∧ (∀ p : Descriptor → Bool,
        namesGone p s = (s.hs.held.filter fun d => p d && wouldName s d).foldl (fun t d => nameGone d t) s)

/-- R76, R79, R81, R84 to R86, R90: a visit by a walking lane of an enabled slot serves the rescue list unless the
slot's class is PRIME, then its class, releasing the head found, after which the lane waits for the link at the same
slot; with nothing to release the lane moves to its next slot. R91: a visit whose search named a head that a discard
then took goes on in the same way from the place where that search stands, whatever has become of the slot. -/
def Obligations.SlotVisitsReleaseOneHead : Prop :=
  ∀ (s : State) (l : LaneName), s.powered = true → l ∈ wheelLanes s → laneState s l = .walking → s.dp.linkUp = true →
    s.mp.mode ≠ .halted → s.gw.appliedSplit ≠ .splitLocked →
    let lane := s.gw.lanes.get l
    let slot := s.gw.slots[lane.slot]
    let visits := fun p : SearchPlace =>
      (∀ d, rescueScan s l p.rescue = some d →
          ∃ t, exec (.slotVisit l) s = .next t ∧ Released l d s t
            ∧ t.gw.readPointers = s.gw.readPointers ∧ t.gw.writePointers = s.gw.writePointers
            ∧ laneState t l = .waitingLink)
        ∧ (∀ d, rescueScan s l p.rescue = none → classSearch s l p.cls p.order = some d →
          ∃ t, exec (.slotVisit l) s = .next t ∧ Released l d s t
            ∧ t.gw.readPointers = (if l = .write then s.gw.readPointers else s.gw.readPointers.set p.cls d.entry)
            ∧ t.gw.writePointers = (if l = .write then s.gw.writePointers.set p.cls d.entry else s.gw.writePointers)
            ∧ laneState t l = .waitingLink)
        ∧ (rescueScan s l p.rescue = none → classSearch s l p.cls p.order = none → lane.slot ≠ lastSlot l →
          exec (.slotVisit l) s
            = .next { s with gw := { s.gw with
                                     lanes := s.gw.lanes.set l { lane with slot := lane.slot + 1, phase := .arrive } } })
    ((∀ p, lane.phase ≠ .searching p) → slot.enabled = true → visits (slotSearch s l slot.cls))
      ∧ (∀ p, lane.phase = .searching p → visits p)

/-- R80, R81, R84 to R86, R90: under SPLIT_LOCKED a visit by a lane that has come to its slot of a pair serves the
class it read there, as any visit does; with nothing to release its visit is done and it waits for its partner. R91: a
visit whose search named a head that a discard then took goes on from the place where that search stands. -/
def Obligations.LockedVisitsServeTheClassRead : Prop :=
  ∀ (s : State) (l : LaneName), s.powered = true → l ∈ wheelLanes s → laneState s l = .walking → s.dp.linkUp = true →
    s.mp.mode ≠ .halted → s.gw.appliedSplit = .splitLocked →
    let lane := s.gw.lanes.get l
    let visits := fun p : SearchPlace =>
      (∀ d, rescueScan s l p.rescue = some d →
          ∃ t, exec (.slotVisit l) s = .next t ∧ Released l d s t
            ∧ t.gw.readPointers = s.gw.readPointers ∧ t.gw.writePointers = s.gw.writePointers
            ∧ laneState t l = .waitingLink)
        ∧ (∀ d, rescueScan s l p.rescue = none → classSearch s l p.cls p.order = some d →
          ∃ t, exec (.slotVisit l) s = .next t ∧ Released l d s t
            ∧ t.gw.readPointers = (if l = .write then s.gw.readPointers else s.gw.readPointers.set p.cls d.entry)
            ∧ t.gw.writePointers = (if l = .write then s.gw.writePointers.set p.cls d.entry else s.gw.writePointers)
            ∧ laneState t l = .waitingLink)
        ∧ (rescueScan s l p.rescue = none → classSearch s l p.cls p.order = none →
          exec (.slotVisit l) s
            = .next { s with gw := { s.gw with lanes := s.gw.lanes.set l { lane with phase := .done } } })
    (∀ c, lane.phase = .visiting c → visits (slotSearch s l c)) ∧ (∀ p, lane.phase = .searching p → visits p)

/-- R79, R82: at a disabled slot, or after a last slot that released nothing, the round ends: in CONTINUOUS pacing the
lane begins again at its first slot if the round released something or was woken, and otherwise waits in IDLE. R77:
while the stored settings differ from the applied ones it waits in IDLE instead, and the stored settings are applied
once every wheel lane is between rounds (the mark of a lane that waits: assumption 41). R80, R82: under SPLIT_LOCKED
both lanes come to a pair in one act, each reading its own slot; a disabled slot of the pair, at the first pair or at
the next one once both visits are done, and the end of pair 7 end the round for both, and in CONTINUOUS both begin
again together if either released something or was woken, unless a changeover is due, which is then taken in the same
act. Each lane of the new arrangement begins as its pacing gives: at once in CONTINUOUS, after a wait in IDLE in PACED.
-/
def Obligations.RoundsEndAndPairsStep : Prop :=
  (∀ (s : State) (l : LaneName), s.powered = true → l ∈ wheelLanes s → laneState s l = .walking → s.dp.linkUp = true →
    s.mp.mode ≠ .halted → s.gw.appliedSplit ≠ .splitLocked →
    let lane := s.gw.lanes.get l
    let c := s.gw.slots[lane.slot].cls
    let same := s.gw.storedSplit = s.gw.appliedSplit ∧ s.gw.storedPacing = s.gw.appliedPacing
    let fresh := ∀ p, lane.phase ≠ .searching p
    ((fresh ∧ s.gw.slots[lane.slot].enabled = false)
      ∨ (lane.slot = lastSlot l ∧ ∃ p, (lane.phase = .searching p ∨ (fresh ∧ p = slotSearch s l c))
          ∧ rescueScan s l p.rescue = none ∧ classSearch s l p.cls p.order = none)) →
    (same → exec (.slotVisit l) s
      = .next { s with gw := { s.gw with
                               lanes := s.gw.lanes.set l
                                 (if s.gw.appliedPacing = .continuous ∧ (lane.released = true ∨ lane.woken = true) then
                                    { motion := .walking, slot := firstSlot l, phase := .arrive, released := false,
                                      woken := false, held := false }
                                  else { lane with motion := .idle }) } })
      ∧ (¬ same → (∃ k ∈ wheelLanes s, k ≠ l ∧ (s.gw.lanes.get k).motion = .walking) →
        exec (.slotVisit l) s
          = .next { s with gw := { s.gw with lanes := s.gw.lanes.set l { lane with motion := .idle, held := true } } })
      ∧ (¬ same → (∀ k ∈ wheelLanes s, k ≠ l → (s.gw.lanes.get k).motion ≠ .walking) →
        ∃ t, exec (.slotVisit l) s = .next t
          ∧ t = { s with gw := { s.gw with lanes := t.gw.lanes, appliedSplit := s.gw.storedSplit,
                                           appliedPacing := s.gw.storedPacing } }
          ∧ (∀ k ∈ activeLanes .regulate s.gw.storedSplit, grantOf s k = none →
              laneState t k = (if s.gw.storedPacing = .paced then .idle else .walking)
                ∧ (s.gw.storedPacing = .continuous → (t.gw.lanes.get k).slot = firstSlot k))
          ∧ (∀ k, k ≠ .drain → k ∉ activeLanes .regulate s.gw.storedSplit → grantOf s k = none →
              laneState t k = .idle)))
    ∧ (∀ (s : State), s.powered = true → s.mp.mode = .regulate → s.gw.appliedSplit = .splitLocked → s.dp.linkUp = true →
    laneState s .read = .walking → laneState s .write = .walking →
    let r := s.gw.lanes.read
    let w := s.gw.lanes.write
    let again := s.gw.appliedPacing = .continuous ∧ (r.released = true ∨ r.woken = true ∨ w.released = true ∨ w.woken = true)
    let lanes := fun (a b : Lane) => { s with gw := { s.gw with lanes := { s.gw.lanes with read := a, write := b } } }
    let begun := fun i : Fin 16 =>
      { motion := .walking, slot := i, phase := .arrive, released := false, woken := false, held := false : Lane }
    let ends := fun (a b : Lane) =>
      (again → exec .slotPairStep s = .next (lanes (begun 0) (begun 8)))
        ∧ (¬ again → exec .slotPairStep s = .next (lanes { a with motion := .idle } { b with motion := .idle }))
    let at' := fun (i j : Fin 16) =>
      lanes { r with slot := i, phase := .visiting s.gw.slots[i].cls } { w with slot := j, phase := .visiting s.gw.slots[j].cls }
    (r.phase = .arrive → w.phase = .arrive → s.gw.slots[r.slot].enabled = true → s.gw.slots[w.slot].enabled = true →
        exec .slotPairStep s = .next (at' r.slot w.slot))
      ∧ (r.phase = .done → w.phase = .done → r.slot ≠ 7 → s.gw.slots[r.slot + 1].enabled = true →
        s.gw.slots[w.slot + 1].enabled = true →
        exec .slotPairStep s = .next (at' (r.slot + 1) (w.slot + 1)))
      ∧ (s.gw.storedSplit = s.gw.appliedSplit → s.gw.storedPacing = s.gw.appliedPacing →
        (r.phase = .arrive → w.phase = .arrive →
            (s.gw.slots[r.slot].enabled = false ∨ s.gw.slots[w.slot].enabled = false) → ends r w)
          ∧ (r.phase = .done → w.phase = .done → r.slot ≠ 7 →
            (s.gw.slots[r.slot + 1].enabled = false ∨ s.gw.slots[w.slot + 1].enabled = false) →
            ends { r with slot := r.slot + 1, phase := .arrive } { w with slot := w.slot + 1, phase := .arrive })
          ∧ (r.phase = .done → w.phase = .done → r.slot = 7 → ends r w))
      ∧ (¬ (s.gw.storedSplit = s.gw.appliedSplit ∧ s.gw.storedPacing = s.gw.appliedPacing) →
        ((r.phase = .arrive ∧ w.phase = .arrive
            ∧ (s.gw.slots[r.slot].enabled = false ∨ s.gw.slots[w.slot].enabled = false))
          ∨ (r.phase = .done ∧ w.phase = .done
            ∧ (r.slot = 7 ∨ s.gw.slots[r.slot + 1].enabled = false ∨ s.gw.slots[w.slot + 1].enabled = false))) →
        ∃ t, exec .slotPairStep s = .next t
          ∧ t = { s with gw := { s.gw with lanes := t.gw.lanes, appliedSplit := s.gw.storedSplit,
                                           appliedPacing := s.gw.storedPacing } }
          ∧ (∀ k ∈ activeLanes .regulate s.gw.storedSplit, grantOf s k = none →
              laneState t k = (if s.gw.storedPacing = .paced then .idle else .walking)
                ∧ (s.gw.storedPacing = .continuous → (t.gw.lanes.get k).slot = firstSlot k))
          ∧ (∀ k, k ≠ .drain → k ∉ activeLanes .regulate s.gw.storedSplit → grantOf s k = none →
              laneState t k = .idle)))

/-- R93, R94: in BYPASS the drain lane's search releases the oldest unfenced head of all enabled entries, whatever its
entry's balance, if its data is ready and the Flight Table and its flight cap have room; otherwise the lane waits in
IDLE, and nothing else changes. -/
def Obligations.DrainLaneReleasesTheOldest : Prop :=
  ∀ (s : State), s.powered = true → s.mp.mode = .bypass → laneState s .drain = .walking → s.gw.grants = [] →
    let candidate := fun d : Descriptor =>
      headOf s d.entry d.txn.kind = some d ∧ s.rmu.entries[d.entry].enabled = true ∧ d.fence = none
    let ready := fun d : Descriptor =>
      d.cells = none ∨ ∃ c r, d.cells = some c ∧ reservationAt s c = some r
        ∧ (r.data = .complete ∨ ((s.rmu.classes.get s.rmu.entries[d.entry].cls).cutThrough = true
            ∧ (s.rmu.classes.get s.rmu.entries[d.entry].cls).startMark ≤ r.received))
    let mayGo := fun d : Descriptor =>
      ready d ∧ flightCount s d.entry < s.rmu.entries[d.entry].flightCap ∧ s.fu.table.length < 256
    let rested := { s with gw := { s.gw with lanes := { s.gw.lanes with
                                                        drain := { s.gw.lanes.drain with motion := .idle } } } }
    (∀ d, candidate d → (∀ x, candidate x → x ≠ d → ageOf s x < ageOf s d) →
        (mayGo d → ∃ t, exec .drainSearch s = .next t ∧ Released .drain d s t
          ∧ t.gw.readPointers = s.gw.readPointers ∧ t.gw.writePointers = s.gw.writePointers
          ∧ laneState t .drain = .waitingLink)
        ∧ (¬ mayGo d → exec .drainSearch s = .next rested))
      ∧ ((∀ d, ¬ candidate d) → exec .drainSearch s = .next rested)

/-! ### The Credit Engine and the PACE pin -/

/-- R106 to R111: a refill's arithmetic over its snapshot: the floor share by the scale of the entry's state, the spare
shared by weight among backlogged FORMULA entries, the ceiling, a pinned refill as it stands; and the shares never give
out more than the spare. R112, R113: a landing adds the pass's refill to the entry's balance up to its burst cap, keeps
the refill of a FORMULA entry as its read-back, and passes the entry's lend ratio of the excess to the pass's
accumulator; the next to land is the lowest-indexed entry of the snapshot that the pass has not dealt with, and an
entry disabled since the snapshot, or enabled since it, is passed over (assumption 36). After the last one the lent
pool becomes the accumulator, capped at PORT_EPOCH_BYTES, and the Grant Wheel is woken. (What the accumulator reads
then: assumption 48.) -/
def Obligations.RefillsAreComputedAndLand : Prop :=
  (∀ (n : Snapshot),
    let scale := fun st : ReqState =>
      match st with
      | .normal => 256
      | .over => n.penaltyScale
      | .starved => n.rescueScale
      | .disabled => 256
    let share := fun r : SnapshotRow =>
      if r.refillSource = .formula then r.floor * scale r.state / 256 else r.pinnedRefill
    let spare := (n.portEpochBytes - (n.rows.map share).sum) + n.lent
    let total := ((n.rows.filter fun r => r.backlogged && r.refillSource == .formula).map (·.weight)).sum
    (∀ r : SnapshotRow, r.refillSource = .formula →
        refillOf n r = min (share r + if r.backlogged = true ∧ total ≠ 0 then spare * r.weight / total else 0) r.ceiling)
      ∧ (∀ r : SnapshotRow, r.refillSource = .pinned → refillOf n r = r.pinnedRefill)
      ∧ (n.rows.map (spareShare n)).sum ≤ spare)
    ∧ (∀ (s : State) (p : RefillPass), s.powered = true → s.ce.pass = some p → PassLaw s →
    (∀ r ∈ p.snapshot.rows, p.next ≤ r.entry.val →
        (∀ x ∈ p.snapshot.rows, p.next ≤ x.entry.val → r.entry ≤ x.entry) →
        let record := s.ce.records[r.entry]
        let cap : Int := s.rmu.entries[r.entry].burst
        let n := record.balance + (refillOf p.snapshot r : Int)
        let ratio := match r.lendRatio with
          | .none => 0
          | .third => 85
          | .twoThirds => 171
          | .all => 256
        (s.rmu.entries[r.entry].enabled = true → r.entry ∉ p.enabledSince →
            exec .refillLanding s
              = .next { s with ce := { s.ce with
                          records := s.ce.records.set r.entry
                            { balance := min n cap,
                              formulaRefill :=
                                if r.refillSource = .formula then refillOf p.snapshot r else record.formulaRefill },
                          accumulator := s.ce.accumulator + (n - cap).toNat * ratio / 256,
                          pass := some { p with next := r.entry.val + 1 } } })
          ∧ ((s.rmu.entries[r.entry].enabled = false ∨ r.entry ∈ p.enabledSince) →
            exec .refillLanding s
              = .next { s with ce := { s.ce with pass := some { p with next := r.entry.val + 1 } } }))
      ∧ ((∀ x ∈ p.snapshot.rows, x.entry.val < p.next) →
        exec .refillPassEnd s
          = .next (wake { s with ce := { s.ce with lent := min s.ce.accumulator s.ce.portEpochBytes, pass := none } })))

/-- R101 to R103, R106, R109, R178: an expiry of the effective epoch source advances the epoch counter; with no pass
running it is taken: a pass begins on a snapshot of the enabled entries, the lent pool is consumed, the lending
accumulator begins at 0 and OVERCOMMIT is set or cleared; during a pass it is missed and EPOCH_OVERRUN posted. Either
way a running countdown loses one. R77, R80, R83: taken or missed, an expiry in PACED pacing begins a round of each
wheel lane that is IDLE and waits for no changeover, of both together under SPLIT_LOCKED, and leaves every other lane
as it was. The timer and the PACE edge are each without effect on the epoch while the other is the source. R101, R170,
R179: with the PACE pin an output the timer is the source whatever is stored, its expiry is taken or missed in the same
way and drives a pulse, and edges from outside do nothing; a pulse, and an edge from outside, are a trigger event of
source PACE besides. (The order of the acts of one expiry: assumption 4; a countdown that has reached 0 rests there
until its own command: assumption 13; which lanes wait: assumption 41.) -/
def Obligations.EpochExpiriesAreTakenOrMissed : Prop :=
  ∀ (s : State), s.powered = true →
    let counted := { s.clu with countdown := s.clu.countdown.map (· - 1) }
    let advanced := { s.ce with epochCounter := s.ce.epochCounter + 1 }
    let begun := fun (c : CreditEngine) (t : State) =>
      ∃ n : Snapshot, t.ce = { c with pass := some ⟨n, 0, []⟩, lent := 0, accumulator := 0,
                                      overcommit := decide (s.ce.portEpochBytes < floorSum n) }
        ∧ n.rows.map (·.entry) = (List.finRange 48).filter (fun e => s.rmu.entries[e].enabled)
        ∧ (∀ r ∈ n.rows, r.floor = s.rmu.entries[r.entry].floor ∧ r.ceiling = s.rmu.entries[r.entry].ceiling
            ∧ r.weight = s.rmu.entries[r.entry].weight ∧ r.lendRatio = s.rmu.entries[r.entry].lendRatio
            ∧ r.refillSource = s.rmu.entries[r.entry].refillSource
            ∧ r.pinnedRefill = s.rmu.entries[r.entry].pinnedRefill ∧ r.state = s.mu.entries[r.entry].state
            ∧ (r.backlogged = true ↔ ∃ d ∈ s.hs.held, d.entry = r.entry))
        ∧ n.lent = s.ce.lent ∧ n.portEpochBytes = s.ce.portEpochBytes ∧ n.penaltyScale = s.ce.penaltyScale
        ∧ n.rescueScale = s.ce.rescueScale
    let free := fun l : LaneName =>
      laneState s l = .idle ∧ ((s.gw.lanes.get l).held = true →
        s.gw.storedSplit = s.gw.appliedSplit ∧ s.gw.storedPacing = s.gw.appliedPacing)
    let begins := fun l : LaneName =>
      s.gw.appliedPacing = .paced ∧ l ∈ wheelLanes s ∧ free l
        ∧ (s.gw.appliedSplit = .splitLocked → ∀ k ∈ wheelLanes s, free k)
    let rest := fun t : State => t.clu = counted ∧ t.gw = { s.gw with lanes := t.gw.lanes } ∧ t.up = s.up ∧ t.dp = s.dp
      ∧ t.rmu = s.rmu ∧ t.hs = s.hs ∧ t.fu = s.fu
      ∧ (∀ l, begins l →
          t.gw.lanes.get l = { motion := .walking, slot := firstSlot l, phase := .arrive, released := false,
                               woken := false, held := false })
      ∧ (∀ l, ¬ begins l → t.gw.lanes.get l = s.gw.lanes.get l)
    let taken := fun (c : Instr) (ce : CreditEngine) (pulse : Bool) (besides : State → State) =>
      ∃ t, exec c s = .next (besides t) ∧ begun ce t ∧ t.mp = { s.mp with pulse := pulse } ∧ rest t
    let missed := fun (c : Instr) (ce : CreditEngine) (pulse : Bool) (besides : State → State) =>
      ∃ t, exec c s = .next (besides t) ∧ t.ce = ce ∧ t.mu = s.mu
        ∧ t.mp = { (postEvent .epochOverrun none none { s with ce := ce }).mp with pulse := pulse } ∧ rest t
    let ticked := { advanced with interval := s.ce.epochPeriod }
    (s.mp.paceDirection = .input →
        (s.ce.epochSource = .timer → s.ce.pass = none → taken .epochTimerExpiry ticked s.mp.pulse id)
          ∧ (s.ce.epochSource = .timer → s.ce.pass ≠ none → missed .epochTimerExpiry ticked s.mp.pulse id)
          ∧ (s.ce.epochSource = .pace → s.ce.pass = none → taken .paceEdge advanced s.mp.pulse (trigger .pace))
          ∧ (s.ce.epochSource = .pace → s.ce.pass ≠ none → missed .paceEdge advanced s.mp.pulse (trigger .pace))
          ∧ (s.ce.epochSource = .pace →
            exec .epochTimerExpiry s = .next { s with ce := { s.ce with interval := s.ce.epochPeriod } })
          ∧ (s.ce.epochSource = .timer → exec .paceEdge s = .next (trigger .pace s)))
      ∧ (s.mp.paceDirection = .output →
        (s.ce.pass = none → taken .epochTimerExpiry ticked true (trigger .pace))
          ∧ (s.ce.pass ≠ none → missed .epochTimerExpiry ticked true (trigger .pace))
          ∧ exec .paceEdge s = .next s)

/-- R101, R170, R171, R186: with the PACE pin an output the timer is the source, each of its expiries drives a pulse
high that ends by itself, and edges from outside do nothing; a write of the direction takes effect at once and ends a
pulse, and a value that names none is refused. -/
def Obligations.PacePinFollowsItsDirection : Prop :=
  (∀ (s : State), s.powered = true → s.mp.paceDirection = .output → s.clu.source ≠ .pace →
      (∃ t, exec .epochTimerExpiry s = .next t ∧ t.ce.epochCounter = s.ce.epochCounter + 1 ∧ t.mp.pulse = true
          ∧ paceLevel false t = true ∧ t.rmu = s.rmu ∧ t.hs = s.hs ∧ t.fu = s.fu ∧ t.up = s.up ∧ t.dp = s.dp)
        ∧ exec .paceEdge s = .next s)
    ∧ (∀ (s : State), s.powered = true →
        exec .pacePulseEnd s = .next { s with mp := { s.mp with pulse := false } })
    ∧ (∀ (s : State) (v : Word), s.powered = true → Settled s →
        let now := BitVec.ofNat 32 (directionCode s.mp.paceDirection)
        (v = 0 → exec (.paceDirectionWrite v) s
            = .next { s with mp := { s.mp with paceDirection := .input, pulse := false, answer := some ⟨.done, 0⟩ } })
          ∧ (v = 1 → exec (.paceDirectionWrite v) s
            = .next { s with mp := { s.mp with paceDirection := .output, pulse := false, answer := some ⟨.done, 1⟩ } })
          ∧ (v ≠ 0 → v ≠ 1 → exec (.paceDirectionWrite v) s
            = .next { s with mp := { s.mp with answer := some ⟨.badTarget, now⟩ } }))


/-! ### The Meter Unit -/

/-- R101, R145, R146, R148, R149, R152: a taken expiry, of the epoch timer while it is the source or the PACE pin is an
output, or of an edge of PACE while that is the source, sets the backlog flag of every backlogged enabled entry and
counts toward the open window; the expiry that fills the window closes it, every accumulator moving into its entry's
closing record with M = ⌊released / 256⌋ held at 65535, and an evaluation pass begins; a close that falls due during a
pass is held, and each further taken expiry until the pass ends is counted toward the next window. -/
def Obligations.WindowsCountAndClose : Prop :=
  let expires := fun (c : Instr) (s : State) =>
    (c = .epochTimerExpiry ∧ (s.mp.paceDirection = .output ∨ s.ce.epochSource = .timer))
      ∨ (c = .paceEdge ∧ s.mp.paceDirection = .input ∧ s.ce.epochSource = .pace)
  (∀ (c : Instr) (s : State) (n : Nat), s.powered = true → expires c s → s.ce.pass = none →
    s.mu.heldClose = some n → n < 255 →
    ∃ t, exec c s = .next t
      ∧ t.mu = { s.mu with heldClose := some (n + 1), entries := t.mu.entries }
      ∧ ∀ e : EntryIx, t.mu.entries[e] = { s.mu.entries[e] with backlog := t.mu.entries[e].backlog }
          ∧ (t.mu.entries[e].backlog = true ↔ s.mu.entries[e].backlog = true
              ∨ (s.rmu.entries[e].enabled = true ∧ ∃ d ∈ s.hs.held, d.entry = e)))
    ∧ (∀ (c : Instr) (s : State), s.powered = true → expires c s → s.ce.pass = none → s.mu.heldClose = none →
    s.mu.windowCount < 255 → s.mu.windowLength ≤ 255 →
    let flag := fun (e : EntryIx) (b : Bool) =>
      b = true ↔ s.mu.entries[e].backlog = true
        ∨ (s.rmu.entries[e].enabled = true ∧ ∃ d ∈ s.hs.held, d.entry = e)
    let n := s.mu.windowCount + 1
    ∃ t, exec c s = .next t
      ∧ (n < s.mu.windowLength →
          t.mu = { s.mu with windowCount := n, entries := t.mu.entries }
          ∧ ∀ e : EntryIx, flag e t.mu.entries[e].backlog
              ∧ t.mu.entries[e] = { s.mu.entries[e] with backlog := t.mu.entries[e].backlog })
      ∧ (s.mu.windowLength ≤ n → s.mu.pass = none →
          t.mu = { s.mu with windowCount := 0, pass := some 0, entries := t.mu.entries }
          ∧ ∀ e : EntryIx, flag e t.mu.entries[e].closing.backlog
              ∧ t.mu.entries[e]
                = { s.mu.entries[e] with
                    released := 0, backlog := false, deferrals := 0,
                    closing := { released := s.mu.entries[e].released,
                                 measured := min (s.mu.entries[e].released / 256) 65535,
                                 backlog := t.mu.entries[e].closing.backlog,
                                 deferrals := s.mu.entries[e].deferrals, windowEpochs := n,
                                 evaluation := if s.rmu.entries[e].enabled then .pending else .evaluated,
                                 fresh := true } })
      ∧ (s.mu.windowLength ≤ n → s.mu.pass ≠ none →
          t.mu = { s.mu with windowCount := n, heldClose := some 0, entries := t.mu.entries }
          ∧ ∀ e : EntryIx, flag e t.mu.entries[e].backlog
              ∧ t.mu.entries[e] = { s.mu.entries[e] with backlog := t.mu.entries[e].backlog }))

/-- R152 to R155, R158: the evaluation of one entry: the limit tests against M, the crossing sign, the persistence
count of the entry's state stepped or reset, the transition when the count reaches its setting, with the rescue list
following it and every count back at 0, and the record EVALUATED. No other entry is touched. R152, R153, R155, R156,
R177: the events of one evaluation come in order: LIMIT_HIGH or LIMIT_LOW, then a crossing that the crossing mode
reports, then the transition's, any of them or none, each with the entry and M; a declaration is an ALARM to the Change
List Unit. (That an ACTION_MISSED which the ALARM gives rise to comes after these events is the model's choice:
assumption 4.) -/
def Obligations.EvaluatingAnEntryWithItsEvents : Prop :=
  (∀ (s : State) (e : EntryIx),
    let c := s.rmu.entries[e]
    let m := s.mu.entries[e]
    let M := m.closing.measured
    let high := c.highLimit < M
    let starved := m.closing.backlog = true ∧ M < min c.lowLimit c.highLimit
    let sign := if 0 < c.offset ∧ c.offset < 65535 then (if c.offset ≤ M then CrossSign.above else .below) else .unknown
    let step := fun n : Nat => min 255 (n + 1)
    let base := { m with lastSign := sign, closing := { m.closing with evaluation := .evaluated } }
    let stays := fun x : MeterEntry =>
      (evaluateEntry e s).mu = { s.mu with entries := s.mu.entries.set e x }
    let moves := fun (st : ReqState) (rescue : List EntryIx) =>
      (evaluateEntry e s).mu
        = { s.mu with entries := s.mu.entries.set e { base with state := st, overCount := 0, starveCount := 0,
                                                                clearCount := 0 },
                      rescueList := rescue }
    (m.state = .normal →
        (high → s.mu.overDeclare ≤ step m.overCount → moves .over s.mu.rescueList)
          ∧ (high → step m.overCount < s.mu.overDeclare → ¬ starved →
              stays { base with overCount := step m.overCount, starveCount := 0 })
          ∧ (¬ high → starved → s.mu.starveDeclare ≤ step m.starveCount → moves .starved (s.mu.rescueList ++ [e]))
          ∧ (¬ high → starved → step m.starveCount < s.mu.starveDeclare →
              stays { base with overCount := 0, starveCount := step m.starveCount })
          ∧ (¬ high → ¬ starved → stays { base with overCount := 0, starveCount := 0 }))
      ∧ (m.state = .over →
        (high → stays { base with clearCount := 0 })
          ∧ (¬ high → s.mu.overClear ≤ step m.clearCount → moves .normal s.mu.rescueList)
          ∧ (¬ high → step m.clearCount < s.mu.overClear → stays { base with clearCount := step m.clearCount }))
      ∧ (m.state = .starved →
        (starved → stays { base with clearCount := 0 })
          ∧ (¬ starved → s.mu.starveClear ≤ step m.clearCount →
              moves .normal (s.mu.rescueList.filter (· != e)))
          ∧ (¬ starved → step m.clearCount < s.mu.starveClear →
              stays { base with clearCount := step m.clearCount })))
    ∧ (∀ (s : State) (e : EntryIx),
    let c := s.rmu.entries[e]
    let m := s.mu.entries[e]
    let M := m.closing.measured
    let high : Bool := decide (c.highLimit < M)
    let starved : Bool := m.closing.backlog && decide (M < min c.lowLimit c.highLimit)
    let sign : Option CrossSign :=
      if 0 < c.offset ∧ c.offset < 65535 then some (if c.offset ≤ M then .above else .below) else none
    let limit : Option EventKind := if high then some .limitHigh else if starved then some .limitLow else none
    let crossing : Option EventKind :=
      if m.lastSign = .above ∧ sign = some .below ∧ (c.crossing = .falling ∨ c.crossing = .both) then
        some .crossingFalling
      else if m.lastSign = .below ∧ sign = some .above ∧ (c.crossing = .rising ∨ c.crossing = .both) then
        some .crossingRising
      else none
    let move : Option EventKind :=
      if m.state = .normal ∧ high = true ∧ s.mu.overDeclare ≤ min 255 (m.overCount + 1) then some .overDeclared
      else if m.state = .normal ∧ high = false ∧ starved = true ∧ s.mu.starveDeclare ≤ min 255 (m.starveCount + 1) then
        some .starvedDeclared
      else if m.state = .over ∧ high = false ∧ s.mu.overClear ≤ min 255 (m.clearCount + 1) then some .overCleared
      else if m.state = .starved ∧ starved = false ∧ s.mu.starveClear ≤ min 255 (m.clearCount + 1) then
        some .starvedCleared
      else none
    let post := fun (k : Option EventKind) (x : State) =>
      match k with
      | none => x
      | some k => postEvent k (some e) (some M) x
    let posted := post move (post crossing (post limit { s with mu := (evaluateEntry e s).mu }))
    evaluateEntry e s
      = if move = some .overDeclared ∨ move = some .starvedDeclared then trigger .alarm posted else posted)

/-- R148, R151, R159: a step of the evaluation pass evaluates the next enabled entry at or after its index whose record
is PENDING, and the pass ends once none is left; a close held pending is then taken in the same act, also where no
entry was left to evaluate, every accumulator moving into its closing record, the records covering the epochs counted
when it fell due, the new window's count starting at the expiries counted meanwhile, and the next pass beginning.
INJECT in HALTED writes an enabled entry's record and evaluates it at once, and is refused in any other mode, for a
disabled entry and for an index that names none, whose answer's value the manual does not state (assumption 1). (The
pass ending in its last entry's step: assumption 14; a held close over a record left PENDING: assumption 44; the value
a refusal answers: assumption 25.) -/
def Obligations.PassAndInjectEvaluate : Prop :=
  let heldCloses := fun (t : State) (n : Nat) (u : State) =>
    u = { t with mu := { t.mu with pass := some 0, heldClose := none, windowCount := n, entries := u.mu.entries } }
      ∧ ∀ x : EntryIx, u.mu.entries[x]
          = { t.mu.entries[x] with
              released := 0, backlog := false, deferrals := 0,
              closing := { released := t.mu.entries[x].released,
                           measured := min (t.mu.entries[x].released / 256) 65535,
                           backlog := t.mu.entries[x].backlog, deferrals := t.mu.entries[x].deferrals,
                           windowEpochs := t.mu.windowCount,
                           evaluation := if t.rmu.entries[x].enabled then .pending else .evaluated,
                           fresh := true } }
  (∀ (s : State) (i : Nat) (e : EntryIx), s.powered = true → s.mu.pass = some i →
      i ≤ e.val → s.rmu.entries[e].enabled = true → s.mu.entries[e].closing.evaluation = .pending →
      (∀ x < e, i ≤ x.val → s.rmu.entries[x].enabled = true → s.mu.entries[x].closing.evaluation = .evaluated) →
      let t := evaluateEntry e s
      let more := ∃ x > e, s.rmu.entries[x].enabled = true ∧ s.mu.entries[x].closing.evaluation = .pending
      (more → exec .entryEvaluation s = .next { t with mu := { t.mu with pass := some (e.val + 1) } })
        ∧ (¬ more → s.mu.heldClose = none → exec .entryEvaluation s = .next { t with mu := { t.mu with pass := none } })
        ∧ (∀ n, ¬ more → s.mu.heldClose = some n → ∃ u, exec .entryEvaluation s = .next u ∧ heldCloses t n u))
    ∧ (∀ (s : State) (i : Nat), s.powered = true → s.mu.pass = some i →
        (∀ x : EntryIx, i ≤ x.val → s.rmu.entries[x].enabled = true → s.mu.entries[x].closing.evaluation = .evaluated) →
        (s.mu.heldClose = none → exec .entryEvaluation s = .next { s with mu := { s.mu with pass := none } })
          ∧ (∀ n, s.mu.heldClose = some n → ∃ u, exec .entryEvaluation s = .next u ∧ heldCloses s n u))
    ∧ (∀ (s : State) (index : Byte) (e : EntryIx) (v : Word), s.powered = true → Settled s → index.toNat = e.val →
        let M := v.toNat % 2 ^ 31
        let stored := min M 65535
        let record : ClosingRecord :=
          { released := stored * 256, measured := stored, backlog := v.getLsbD 31, deferrals := 0, windowEpochs := 0,
            evaluation := .pending, fresh := true }
        let t := evaluateEntry e
          { s with mu := { s.mu with entries := s.mu.entries.set e { s.mu.entries[e] with closing := record } } }
        let now := BitVec.ofNat 32 s.mu.entries[e].closing.measured
        (s.mp.mode = .halted → s.rmu.entries[e].enabled = true →
            exec (.inject index v) s
              = .next { t with mp := { t.mp with
                                       answer := some ⟨if M ≤ 65535 then .done else .clamped,
                                                       BitVec.ofNat 32 stored⟩ } })
          ∧ (s.mp.mode ≠ .halted →
            exec (.inject index v) s = .next { s with mp := { s.mp with answer := some ⟨.refusedState, now⟩ } })
          ∧ (s.mp.mode = .halted → s.rmu.entries[e].enabled = false →
            exec (.inject index v) s = .next { s with mp := { s.mp with answer := some ⟨.badTarget, now⟩ } }))
    ∧ (∀ (s : State) (index : Byte) (v : Word), s.powered = true → Settled s → 48 ≤ index.toNat →
        let code : AnswerCode := if s.mp.mode = .halted then .badTarget else .refusedState
        ∃ w, exec (.inject index v) s
          = .next { s with freeUsed := s.freeUsed + 1, mp := { s.mp with answer := some ⟨code, w⟩ } })

/-! ### The Change List Unit -/

/-- R177 to R179: ARM sets the arm flag and, with source COUNTDOWN, loads the countdown; DISARM clears both; GO, taken
only with source GO, is a trigger event: it starts a run at list entry 0 if the flag is set and none runs, is ignored
if the flag is clear, and posts ACTION_MISSED with the position if a run is under way; the countdown's expiry, a
declaration as ALARM and, with source PACE, an edge of PACE from outside or of a driven pulse start or miss a run in
the same way, one of another kind than the source being ignored; a write of the source stops the countdown, and one of a
code that names no source is refused with BAD_TARGET (R186), source and countdown staying as they are. (The activity
codes: assumption 6; the countdown resting at 0: assumption 13; an expiry that is also a PACE trigger:
assumption 4.) -/
def Obligations.TriggersStartTheRun : Prop :=
  ∀ (s : State), s.powered = true →
    let activity := fun c : ChangeList => BitVec.ofNat 32 (if c.run.isSome then 1 else 0)
    let answered := fun (c : ChangeList) (code : AnswerCode) =>
      Host.Outcome.next (φ := Fault) (ρ := Refusal)
        { s with clu := c, mp := { s.mp with answer := some ⟨code, activity c⟩ } }
    let started := { s.clu with run := some 0, armed := !s.clu.oneShot }
    let counted := fun c : ChangeList => { c with countdown := s.clu.countdown.map (· - 1) }
    (∀ k : TriggerSource,
        (k ≠ s.clu.source → trigger k s = s)
          ∧ (k = s.clu.source →
            (∀ p, s.clu.run = some p → trigger k s = postEvent .actionMissed none (some p.val) s)
              ∧ (s.clu.run = none → s.clu.armed = true → trigger k s = { s with clu := started })
              ∧ (s.clu.run = none → s.clu.armed = false → trigger k s = s)))
      ∧ (Settled s →
          exec .arm s
            = answered { s.clu with armed := true,
                                    countdown := if s.clu.source = .countdown then some s.clu.countdownLength
                                                 else s.clu.countdown } .done)
      ∧ (Settled s → exec .disarm s = answered { s.clu with armed := false, countdown := none } .done)
      ∧ (Settled s → s.clu.source ≠ .go → exec .go s = answered s.clu .refusedState)
      ∧ (Settled s → s.clu.source = .go → s.clu.run = none → s.clu.armed = true → exec .go s = answered started .done)
      ∧ (Settled s → s.clu.source = .go → s.clu.run = none → s.clu.armed = false → exec .go s = answered s.clu .done)
      ∧ (∀ p, Settled s → s.clu.source = .go → s.clu.run = some p →
          let t := postEvent .actionMissed none (some p.val) s
          exec .go s = .next { t with mp := { t.mp with answer := some ⟨.done, 1⟩ } })
      ∧ (s.clu.source = .countdown → s.clu.countdown = some 0 → s.clu.run = none → s.clu.armed = true →
          exec .countdownExpiry s = .next { s with clu := { started with countdown := none } })
      ∧ (s.clu.countdown = some 0 → s.clu.run = none → s.clu.armed = false →
          exec .countdownExpiry s = .next { s with clu := { s.clu with countdown := none } })
      ∧ (s.clu.source = .pace → s.mp.paceDirection = .input → s.ce.epochSource = .timer → s.clu.run = none →
          s.clu.armed = true → exec .paceEdge s = .next { s with clu := started })
      ∧ (∀ p, s.clu.source = .countdown → s.clu.countdown = some 0 → s.clu.run = some p →
          exec .countdownExpiry s
            = .next (postEvent .actionMissed none (some p.val) { s with clu := { s.clu with countdown := none } }))
      ∧ (∀ p, s.clu.source = .pace → s.mp.paceDirection = .input → s.ce.epochSource = .timer → s.clu.run = some p →
          exec .paceEdge s = .next (postEvent .actionMissed none (some p.val) s))
      ∧ (s.clu.source = .pace → s.mp.paceDirection = .input → s.ce.epochSource = .pace → s.clu.run = none →
          s.clu.armed = true →
          ∃ t, exec .paceEdge s = .next t ∧ t.clu = counted started ∧ t.ce.epochCounter = s.ce.epochCounter + 1)
      ∧ (s.clu.source = .pace → s.mp.paceDirection = .output → s.clu.run = none → s.clu.armed = true →
          ∃ t, exec .epochTimerExpiry s = .next t ∧ t.clu = counted started ∧ t.mp.pulse = true
            ∧ t.ce.epochCounter = s.ce.epochCounter + 1)
      ∧ (∀ p, s.clu.source = .pace → s.mp.paceDirection = .output → s.clu.run = some p → s.ce.pass = none →
          ∃ t, exec .epochTimerExpiry s = .next t ∧ t.clu = counted s.clu
            ∧ t.mp = (postEvent .actionMissed none (some p.val)
                { s with ce := t.ce, mp := { s.mp with pulse := true } }).mp)
      ∧ (∀ (k : TriggerSource), Settled s →
          exec (.triggerSourceWrite (BitVec.ofNat 32 (triggerCode k))) s
            = .next { s with clu := { s.clu with source := k, countdown := none },
                             mp := { s.mp with answer := some ⟨.done, BitVec.ofNat 32 (triggerCode k)⟩ } })
      ∧ (∀ v : Word, Settled s → 3 < v.toNat →
          exec (.triggerSourceWrite v) s
            = .next { s with mp := { s.mp with
                                     answer := some ⟨.badTarget, BitVec.ofNat 32 (triggerCode s.clu.source)⟩ } })

/-- R175, R176, R180, R181: the run hands an entry's write to its owner, clamped as any write is, and moves on;
SET_SLOT writes both fields of its slot together, ENABLE and DISABLE do what the commands of those names do; END and
entry 31 end it with ACTION_DONE and the number applied; an unknown kind, a target out of range and a refused write end
it with ACTION_FAULT. List entries are stored as written while no run is under way and refused during one. (The answer
to a target write: assumption 24; the end after entry 31: assumption 38.) -/
def Obligations.ChangeListAppliesItsEntries : Prop :=
  (∀ (s : State) (p : Fin 32), s.powered = true → s.clu.run = some p →
      let x := s.clu.list[p]
      let ended := { s with clu := { s.clu with run := none } }
      let on := fun t : State =>
        if p.val = 31 then postEvent .actionDone none (some 32) { t with clu := { t.clu with run := none } }
        else { t with clu := { t.clu with run := some (p + 1) } }
      let fault := exec .changeListApply s = .next (postEvent .actionFault none (some p.val) ended)
      let edit := fun (e : EntryIx) (f : EntryConfig → EntryConfig) =>
        exec .changeListApply s
          = .next (on { s with rmu := { s.rmu with entries := s.rmu.entries.set e (f s.rmu.entries[e]) } })
      (x.kind = 0 → exec .changeListApply s = .next (postEvent .actionDone none (some p.val) ended))
        ∧ (12 < x.kind.toNat → fault)
        ∧ (1 ≤ x.kind.toNat → x.kind.toNat ≤ 9 → 48 ≤ x.target.toNat → fault)
        ∧ (∀ e : EntryIx, x.target.toNat = e.val →
          (x.kind = 1 → edit e fun c => { c with floor := min x.value.toNat 65535 })
            ∧ (x.kind = 2 → edit e fun c => { c with ceiling := min x.value.toNat 65535 })
            ∧ (x.kind = 3 → edit e fun c => { c with weight := min x.value.toNat 255 })
            ∧ (x.kind = 4 →
              let cap := min x.value.toNat 65535
              exec .changeListApply s
                = .next (on { s with
                    rmu := { s.rmu with entries := s.rmu.entries.set e { s.rmu.entries[e] with burst := cap } },
                    ce := { s.ce with
                            records :=
                              if s.rmu.entries[e].enabled then
                                s.ce.records.set e
                                  { s.ce.records[e] with balance := min s.ce.records[e].balance (cap : Int) }
                              else s.ce.records } }))
            ∧ (∀ k, x.kind = 5 → x.value.toNat = classCode k → edit e fun c => { c with cls := k })
            ∧ (x.kind = 5 → 3 < x.value.toNat → fault)
            ∧ (x.kind = 6 → edit e fun c => { c with key := x.value.setWidth 16 })
            ∧ (x.kind = 7 → edit e fun c => { c with mask := x.value.setWidth 16 })
            ∧ (x.kind = 8 → Settled s → ∃ u, exec (.enable (BitVec.ofNat 8 e.val)) s = .next u
                ∧ exec .changeListApply s = .next (on { u with mp := { u.mp with answer := s.mp.answer } }))
            ∧ (x.kind = 9 → e ≠ 0 → Settled s → ∃ u, exec (.disable (BitVec.ofNat 8 e.val)) s = .next u
                ∧ exec .changeListApply s = .next (on { u with mp := { u.mp with answer := s.mp.answer } }))
            ∧ (x.kind = 9 → e = 0 → fault))
        ∧ (∀ (i : Fin 16) (k : SvcClass), x.kind = 10 → x.target.toNat = i.val → x.value.toNat % 256 = classCode k →
          exec .changeListApply s
            = .next (on { s with gw := { s.gw with slots := s.gw.slots.set i ⟨k, x.value.getLsbD 8⟩ } }))
        ∧ (x.kind = 10 → (16 ≤ x.target.toNat ∨ 3 < x.value.toNat % 256) → fault)
        ∧ (∀ k : ListKind, listKindOf x.kind.toNat = some k → k ≠ .fin →
          let r := applyKind k x.target.toNat x.value s
          (r.2 = .badTarget → exec .changeListApply s
              = .next (postEvent .actionFault none (some p.val) { r.1 with clu := { r.1.clu with run := none } }))
            ∧ (r.2 ≠ .badTarget → exec .changeListApply s = .next (on r.1)))
        ∧ (x.kind = 11 → exec .changeListApply s
            = .next (on { s with ce := { s.ce with penaltyScale := min x.value.toNat 256 } }))
        ∧ (x.kind = 12 → exec .changeListApply s
            = .next (on { s with ce := { s.ce with rescueScale := max 256 (min x.value.toNat 512) } })))
    ∧ (∀ (s : State) (i : Fin 32) (v : Word), s.powered = true → Settled s →
        let x := s.clu.list[i]
        let stored := fun (f : Byte) (y : ListEntry) (a : Word) =>
          exec (.changeListEntryWrite (BitVec.ofNat 8 i.val) f v) s
            = .next { s with clu := { s.clu with list := s.clu.list.set i y },
                             mp := { s.mp with answer := some ⟨.done, a⟩ } }
        (s.clu.run = none → stored 0 { x with kind := v } v ∧ stored 1 { x with target := v.setWidth 16 } (v &&& 0xFFFF)
            ∧ stored 2 { x with value := v } v)
          ∧ (s.clu.run ≠ none →
            ∀ f ∈ [((0 : Byte), x.kind), (1, x.target.setWidth 32), (2, x.value)],
              exec (.changeListEntryWrite (BitVec.ofNat 8 i.val) f.1 v) s
                = .next { s with mp := { s.mp with answer := some ⟨.refusedState, f.2⟩ } }))

/-! ### The Management Port: fields -/

/-- R24, R25, R150, R186, R187, and the field maps of section 11.2: READ FIELD of every field of the seven tables is
answered DONE with the field as its owner holds it, a named value as its code, and changes nothing else; a read of M
also clears the record's fresh flag, and a read of the low part of released bytes also copies the high part, which the
next read of that entry's high part returns. A table, index or field number that names no field is answered BAD_TARGET
with 0. (The popped value: PopEventTakesTheOldestRecord. The code of an activity: assumption 6. The run position while
no run is under way and a rescue-list position past the list's end are answered DONE with a value the manual does not
state: assumption 1.) -/
def Obligations.ReadFieldAnswersTheFieldAsHeld : Prop :=
  (∀ (s : State) (e : EntryIx), s.powered = true → Settled s →
    let c := s.rmu.entries[e]
    let m := s.mu.entries[e]
    let k := s.fu.counters[e]
    let index : Byte := BitVec.ofNat 8 e.val
    let answered := fun (code : AnswerCode) (v : Word) =>
      Host.Outcome.next (φ := Fault) (ρ := Refusal) { s with mp := { s.mp with answer := some ⟨code, v⟩ } }
    let reads := fun (table index : Byte) (fields : List (Byte × Nat)) =>
      ∀ x ∈ fields, exec (.readField table index x.1) s = answered .done (BitVec.ofNat 32 x.2)
    let yes := fun b : Bool => if b then 1 else 0
    let classNo := fun x : SvcClass =>
      match x with
      | .prime => 0
      | .record => 1
      | .bulk => 2
      | .scavenge => 3
    let ratio := match c.lendRatio with
      | .none => 0
      | .third => 85
      | .twoThirds => 171
      | .all => 256
    let crossing := match c.crossing with
      | .off => 0
      | .falling => 1
      | .rising => 2
      | .both => 3
    let state := match m.state with
      | .disabled => 0
      | .normal => 1
      | .over => 2
      | .starved => 3
    let sign := match m.lastSign with
      | .unknown => 0
      | .above => 1
      | .below => 2
    let splitNo := fun x : LaneSplit =>
      match x with
      | .shared => 0
      | .splitLocked => 1
      | .splitFree => 2
    let pacingNo := fun x : Pacing => if x = .continuous then 0 else 1
    let laneNo := fun l : LaneName =>
      match laneState s l with
      | .idle => 0
      | .walking => 1
      | .waitingLink => 2
      | .stopped => 3
    let sourceNo := match s.clu.source with
      | .pace => 0
      | .alarm => 1
      | .countdown => 2
      | .go => 3
    reads 1 index
        [(0x00, yes c.enabled), (0x01, c.key.toNat), (0x02, c.mask.toNat), (0x03, classNo c.cls),
         (0x04, c.windowBase.toNat % 2 ^ 32), (0x05, c.windowBase.toNat / 2 ^ 32),
         (0x06, c.windowLimit.toNat % 2 ^ 32), (0x07, c.windowLimit.toNat / 2 ^ 32), (0x08, c.floor),
         (0x09, c.ceiling), (0x0A, c.weight), (0x0B, c.burst), (0x0C, ratio),
         (0x0D, if c.refillSource = .pinned then 1 else 0), (0x0E, c.pinnedRefill), (0x0F, c.quota),
         (0x10, c.flightCap), (0x11, c.lowLimit), (0x12, c.highLimit), (0x13, c.offset), (0x14, crossing),
         (0x21, state), (0x22, (s.hs.held.filter (·.entry == e)).length),
         (0x23, (s.fu.table.filter (·.entry == e)).length),
         (0x24, if c.refillSource = .pinned then c.pinnedRefill else s.ce.records[e].formulaRefill)]
      ∧ exec (.readField 1 index 0x20) s = answered .done (BitVec.ofInt 32 s.ce.records[e].balance)
      ∧ (∀ x : SvcClass, reads 2 (BitVec.ofNat 8 (classNo x))
        [(0x00, yes (s.rmu.classes.get x).cutThrough), (0x01, (s.rmu.classes.get x).startMark),
         (0x02, if (s.rmu.classes.get x).policy = .defer then 0 else 1)])
      ∧ (∀ i : Fin 16, reads 3 (BitVec.ofNat 8 i.val) [(0x00, classNo s.gw.slots[i].cls), (0x01, yes s.gw.slots[i].enabled)])
      ∧ reads 3 16
        [(0x00, splitNo s.gw.storedSplit), (0x01, pacingNo s.gw.storedPacing), (0x10, splitNo s.gw.appliedSplit),
         (0x11, pacingNo s.gw.appliedPacing), (0x12, laneNo .read), (0x13, laneNo .write), (0x14, laneNo .shared),
         (0x15, laneNo .drain), (0x18, (s.gw.readPointers.get .prime).val), (0x19, (s.gw.readPointers.get .record).val),
         (0x1A, (s.gw.readPointers.get .bulk).val), (0x1B, (s.gw.readPointers.get .scavenge).val),
         (0x1C, (s.gw.writePointers.get .prime).val), (0x1D, (s.gw.writePointers.get .record).val),
         (0x1E, (s.gw.writePointers.get .bulk).val), (0x1F, (s.gw.writePointers.get .scavenge).val)]
      ∧ reads 4 0
        [(0x00, s.ce.epochPeriod), (0x01, if s.ce.epochSource = .timer then 0 else 1), (0x02, s.ce.portEpochBytes),
         (0x03, s.ce.penaltyScale), (0x04, s.ce.rescueScale), (0x05, s.ce.readFactor), (0x06, s.ce.writeFactor),
         (0x07, s.fu.responseTimeout), (0x08, s.mu.windowLength), (0x09, s.mu.overDeclare), (0x0A, s.mu.overClear),
         (0x0B, s.mu.starveDeclare), (0x0C, s.mu.starveClear), (0x0D, s.hs.descriptorLow), (0x0E, s.hs.descriptorHigh),
         (0x0F, s.hs.cellLow), (0x10, s.hs.cellHigh), (0x11, if s.mp.paceDirection = .input then 0 else 1),
         (0x12, s.mp.eventMask.toNat), (0x20, s.ce.epochCounter.toNat), (0x21, s.ce.lent), (0x22, freeDescriptors s),
         (0x23, freeCells s)]
      ∧ (∀ i : Fin 32, reads 5 (BitVec.ofNat 8 i.val)
        [(0x00, s.clu.list[i].kind.toNat), (0x01, s.clu.list[i].target.toNat), (0x02, s.clu.list[i].value.toNat)])
      ∧ reads 5 32
        [(0x00, sourceNo), (0x01, yes s.clu.oneShot), (0x02, s.clu.countdownLength), (0x11, s.clu.countdown.getD 0)]
      ∧ (∀ p, s.clu.run = some p → reads 5 32 [(0x10, p.val)])
      ∧ reads 6 index
        [(0x00, m.closing.released), (0x02, yes m.closing.backlog), (0x03, m.closing.deferrals),
         (0x04, m.closing.windowEpochs), (0x05, if m.closing.evaluation = .evaluated then 0 else 1),
         (0x06, yes m.closing.fresh), (0x07, m.overCount), (0x08, m.starveCount), (0x09, m.clearCount), (0x0A, sign)]
      ∧ reads 6 48 [(0x00, s.mu.rescueList.length), (0x01, s.mu.windowCount), (0x02, if s.mu.pass = none then 0 else 1)]
      ∧ (∀ (i : Fin 48) (x : EntryIx), s.mu.rescueList[i.val]? = some x → reads 6 48 [(BitVec.ofNat 8 (16 + i.val), x.val)])
      ∧ reads 7 index [(0x02, k.deferrals), (0x03, k.refusals), (0x04, k.timeouts)]
      ∧ exec (.readM index) s
        = .next { s with mu := { s.mu with
                                 entries := s.mu.entries.set e
                                   { m with closing := { m.closing with fresh := false } } },
                         mp := { s.mp with answer := some ⟨.done, BitVec.ofNat 32 m.closing.measured⟩ } }
      ∧ exec (.readReleasedBytesLow index) s
        = .next { s with mp := { s.mp with answer := some ⟨.done, BitVec.ofNat 32 (k.released % 2 ^ 32)⟩,
                                           holding := some ⟨e, k.released / 2 ^ 32⟩ } }
      ∧ (∀ n, s.mp.holding = some ⟨e, n⟩ →
        exec (.readReleasedBytesHigh index) s
          = .next { s with mp := { s.mp with answer := some ⟨.done, BitVec.ofNat 32 n⟩, holding := none } })
      ∧ ((∀ n, s.mp.holding ≠ some ⟨e, n⟩) →
        exec (.readReleasedBytesHigh index) s = answered .done (BitVec.ofNat 32 (k.released / 2 ^ 32))))
    ∧ (∀ s : State, s.powered = true → Settled s →
      let unstated := fun (c : Instr) =>
        ∃ v, exec c s = .next { s with freeUsed := s.freeUsed + 1, mp := { s.mp with answer := some ⟨.done, v⟩ } }
      (s.clu.run = none → unstated (.readField 5 32 0x10))
        ∧ (∀ i : Fin 48, s.mu.rescueList.length ≤ i.val → unstated (.readField 6 48 (BitVec.ofNat 8 (16 + i.val)))))
    ∧ (∀ (s : State) (table index field : Byte) (v : Word), s.powered = true → Settled s →
      let i := index.toNat
      let f := field.toNat
      let named := match table.toNat with
        | 1 => i < 48 ∧ (f ≤ 0x14 ∨ (0x20 ≤ f ∧ f ≤ 0x24))
        | 2 => i < 4 ∧ f ≤ 2
        | 3 => (i < 16 ∧ f ≤ 1) ∨ (i = 16 ∧ (f ≤ 1 ∨ (0x10 ≤ f ∧ f ≤ 0x15) ∨ (0x18 ≤ f ∧ f ≤ 0x1F)))
        | 4 => i = 0 ∧ (f ≤ 0x12 ∨ (0x20 ≤ f ∧ f ≤ 0x24))
        | 5 => (i < 32 ∧ f ≤ 2) ∨ (i = 32 ∧ (f ≤ 2 ∨ f = 0x10 ∨ f = 0x11))
        | 6 => (i < 48 ∧ f ≤ 0x0A) ∨ (i = 48 ∧ (f ≤ 2 ∨ (0x10 ≤ f ∧ f ≤ 0x3F)))
        | 7 => i < 48 ∧ f ≤ 4
        | _ => False
      let bad := Host.Outcome.next (φ := Fault) (ρ := Refusal) { s with mp := { s.mp with answer := some ⟨.badTarget, 0⟩ } }
      ¬ named → exec (.readField table index field) s = bad ∧ exec (.writeField table index field v) s = bad)

/-- R20, R21, R22, R30, R76, R100, R101, R105, R126, R144, R177, R186: a write of a number, of every table, is stored
clamped into the field's range and answered DONE or CLAMPED with what is stored; a match key and a mask keep the low 16
bits, and a window's low and high parts are stored each by itself; a start mark is rounded up to 64, 128, 256 or 512;
each field of a wheel slot is stored by itself; a code stores the value it names, and one that names none, or a write
to a runtime field, is refused with BAD_TARGET and answered with the field as it stands, the field keeping its value;
nothing else changes. A write that the opcode table lists as a command of its own does what that command does. (A write
to the run position while no run is under way, or to a rescue-list position past the list's end, is answered BAD_TARGET
with a value the manual does not state: assumption 1.) -/
def Obligations.WriteFieldStoresClampedOrRefuses : Prop :=
  ∀ (s : State) (e : EntryIx) (v : Word), s.powered = true → Settled s →
    let index : Byte := BitVec.ofNat 8 e.val
    let n := v.toNat
    let c := s.rmu.entries[e]
    let done := fun (t : State) (code : AnswerCode) (stored : Nat) =>
      Host.Outcome.next (φ := Fault) (ρ := Refusal)
        { t with mp := { t.mp with answer := some ⟨code, BitVec.ofNat 32 stored⟩ } }
    let writes := fun (table i f : Byte) (stored : Nat) (t : State) =>
      exec (.writeField table i f v) s = done t (if stored = n then .done else .clamped) stored
    let refused := fun (table i f : Byte) (value : Nat) => exec (.writeField table i f v) s = done s .badTarget value
    let unstated := fun (table i f : Byte) =>
      ∃ w, exec (.writeField table i f v) s
        = .next { s with freeUsed := s.freeUsed + 1, mp := { s.mp with answer := some ⟨.badTarget, w⟩ } }
    let entry := fun (f : Byte) (stored : Nat) (d : EntryConfig) =>
      writes 1 index f stored { s with rmu := { s.rmu with entries := s.rmu.entries.set e d } }
    let yes := fun b : Bool => if b then 1 else 0
    let low := fun w : BitVec 36 => w.toNat % 2 ^ 32
    let high := fun w : BitVec 36 => w.toNat / 2 ^ 32
    -- REQUESTER numbers
    (∀ x ∈ [((0x08 : Byte), 0, 65535, fun k => { c with floor := k }), (0x09, 0, 65535, fun k => { c with ceiling := k }),
            (0x0A, 0, 255, fun k => { c with weight := k }), (0x0E, 0, 65535, fun k => { c with pinnedRefill := k }),
            (0x0F, 0, 64, fun k => { c with quota := k }), (0x10, 1, 64, fun k => { c with flightCap := k }),
            (0x11, 0, 65535, fun k => { c with lowLimit := k }), (0x12, 0, 65535, fun k => { c with highLimit := k }),
            (0x13, 0, 65535, fun k => { c with offset := k })],
          entry x.1 (max x.2.1 (min n x.2.2.1)) (x.2.2.2 (max x.2.1 (min n x.2.2.1))))
      -- the match key and mask, the window's parts
      ∧ entry 0x01 (n % 2 ^ 16) { c with key := v.setWidth 16 }
      ∧ entry 0x02 (n % 2 ^ 16) { c with mask := v.setWidth 16 }
      ∧ entry 0x04 n { c with windowBase := BitVec.ofNat 36 (high c.windowBase * 2 ^ 32 + n) }
      ∧ entry 0x05 (min n 15) { c with windowBase := BitVec.ofNat 36 (min n 15 * 2 ^ 32 + low c.windowBase) }
      ∧ entry 0x06 n { c with windowLimit := BitVec.ofNat 36 (high c.windowLimit * 2 ^ 32 + n) }
      ∧ entry 0x07 (min n 15) { c with windowLimit := BitVec.ofNat 36 (min n 15 * 2 ^ 32 + low c.windowLimit) }
      -- REQUESTER codes
      ∧ (∀ x ∈ [(0, SvcClass.prime), (1, .record), (2, .bulk), (3, .scavenge)], n = x.1 → entry 0x03 n { c with cls := x.2 })
      ∧ (∀ x ∈ [(0, LendRatio.none), (85, .third), (171, .twoThirds), (256, .all)],
          n = x.1 → entry 0x0C n { c with lendRatio := x.2 })
      ∧ (n = 0 → entry 0x0D 0 { c with refillSource := .formula }) ∧ (n = 1 → entry 0x0D 1 { c with refillSource := .pinned })
      ∧ (∀ x ∈ [(0, CrossingMode.off), (1, .falling), (2, .rising), (3, .both)],
          n = x.1 → entry 0x14 n { c with crossing := x.2 })
      ∧ (3 < n → refused 1 index 0x03 (classCode c.cls) ∧ refused 1 index 0x14 (crossingCode c.crossing))
      ∧ (n ≠ 0 → n ≠ 85 → n ≠ 171 → n ≠ 256 → refused 1 index 0x0C (lendRatioOf c.lendRatio))
      ∧ (1 < n → refused 1 index 0x00 (yes c.enabled) ∧ refused 1 index 0x0D (if c.refillSource = .pinned then 1 else 0))
      -- CLASS
      ∧ (∀ (k : SvcClass) (x : ClassRecord), s.rmu.classes.get k = x →
        let at' : Byte := BitVec.ofNat 8 (classCode k)
        let mark := if n ≤ 64 then 64 else if n ≤ 128 then 128 else if n ≤ 256 then 256 else 512
        let record := fun (f : Byte) (stored : Nat) (y : ClassRecord) =>
          writes 2 at' f stored { s with rmu := { s.rmu with classes := s.rmu.classes.set k y } }
        record 0x01 mark { x with startMark := mark }
          ∧ (n = 0 → record 0x00 0 { x with cutThrough := false } ∧ record 0x02 0 { x with policy := .defer })
          ∧ (n = 1 → record 0x00 1 { x with cutThrough := true } ∧ record 0x02 1 { x with policy := .stall })
          ∧ (1 < n → refused 2 at' 0x00 (yes x.cutThrough) ∧ refused 2 at' 0x02 (if x.policy = .defer then 0 else 1)))
      -- WHEEL slots
      ∧ (∀ i : Fin 16,
        let at' : Byte := BitVec.ofNat 8 i.val
        let slot := s.gw.slots[i]
        let stored := fun (f : Byte) (x : Slot) =>
          writes 3 at' f n { s with gw := { s.gw with slots := s.gw.slots.set i x } }
        (∀ k : SvcClass, n = classCode k → stored 0x00 { slot with cls := k })
          ∧ (n = 0 → stored 0x01 { slot with enabled := false }) ∧ (n = 1 → stored 0x01 { slot with enabled := true })
          ∧ (3 < n → refused 3 at' 0x00 (classCode slot.cls)) ∧ (1 < n → refused 3 at' 0x01 (yes slot.enabled)))
      -- GLOBAL
      ∧ (∀ x ∈ [((0x00 : Byte), 1, 4095, fun k => { s.ce with epochPeriod := k }),
                (0x03, 0, 256, fun k => { s.ce with penaltyScale := k }), (0x04, 256, 512, fun k => { s.ce with rescueScale := k }),
                (0x05, 1, 1023, fun k => { s.ce with readFactor := k }), (0x06, 1, 1023, fun k => { s.ce with writeFactor := k })],
          let k := max x.2.1 (min n x.2.2.1)
          writes 4 0 x.1 k { s with ce := x.2.2.2 k })
      ∧ (∀ x ∈ [((0x08 : Byte), fun k => { s.mu with windowLength := k }), (0x09, fun k => { s.mu with overDeclare := k }),
                (0x0A, fun k => { s.mu with overClear := k }), (0x0B, fun k => { s.mu with starveDeclare := k }),
                (0x0C, fun k => { s.mu with starveClear := k })],
          writes 4 0 x.1 (max 1 (min n 255)) { s with mu := x.2 (max 1 (min n 255)) })
      ∧ writes 4 0 0x07 (min n 65535) { s with fu := { s.fu with responseTimeout := min n 65535 } }
      ∧ (n = 0 → writes 4 0 0x01 0 { s with ce := { s.ce with epochSource := .timer } })
      ∧ (n = 1 → writes 4 0 0x01 1 { s with ce := { s.ce with epochSource := .pace } })
      ∧ (1 < n → refused 4 0 0x01 (if s.ce.epochSource = .timer then 0 else 1))
      -- CHANGE_LIST settings
      ∧ (n = 0 → writes 5 32 0x01 0 { s with clu := { s.clu with oneShot := false } })
      ∧ (n = 1 → writes 5 32 0x01 1 { s with clu := { s.clu with oneShot := true } })
      ∧ (1 < n → refused 5 32 0x01 (yes s.clu.oneShot)) ∧ (3 < n → refused 5 32 0x00 (triggerCode s.clu.source))
      ∧ writes 5 32 0x02 (max 1 (min n 65535)) { s with clu := { s.clu with countdownLength := max 1 (min n 65535) } }
      -- fields marked R
      ∧ (∀ x ∈ ([0x20, 0x21, 0x22, 0x23, 0x24].map fun f => ((1 : Byte), index, (f : Byte)))
            ++ ([0x10, 0x11, 0x12, 0x13, 0x14, 0x15, 0x18, 0x19, 0x1A, 0x1B, 0x1C, 0x1D, 0x1E, 0x1F].map fun f => (3, 16, f))
            ++ ([0x20, 0x21, 0x22, 0x23, 0x24].map fun f => (4, 0, f)) ++ [(5, 32, 0x11)]
            ++ ([0x00, 0x02, 0x03, 0x04, 0x05, 0x06, 0x07, 0x08, 0x09, 0x0A].map fun f => (6, index, f))
            ++ ([0x00, 0x01, 0x02].map fun f => (6, 48, f)) ++ ([0x02, 0x03, 0x04].map fun f => (7, index, f)),
          ∃ w : Word, exec (.readField x.1 x.2.1 x.2.2) s = done s .done w.toNat
            ∧ exec (.writeField x.1 x.2.1 x.2.2 v) s = done s .badTarget w.toNat)
      ∧ refused 6 index 0x01 s.mu.entries[e].closing.measured ∧ refused 7 index 0x00 (s.fu.counters[e].released % 2 ^ 32)
      ∧ refused 7 index 0x01 (s.fu.counters[e].released / 2 ^ 32)
      ∧ (∀ p, s.clu.run = some p → refused 5 32 0x10 p.val) ∧ (s.clu.run = none → unstated 5 32 0x10)
      ∧ (∀ i : Fin 48,
        let at' : Byte := BitVec.ofNat 8 (16 + i.val)
        (∀ x : EntryIx, s.mu.rescueList[i.val]? = some x → refused 6 48 at' x.val)
          ∧ (s.mu.rescueList.length ≤ i.val → unstated 6 48 at'))
      -- the writes that the opcode table lists as commands of their own
      ∧ (∀ table i f : Byte, exec (.writeField table i f v) s = exec (frameCommand false ⟨0x02, table, i, f, v⟩) s)

/-- R32, R104, R151: a write of yes to a disabled entry's enabled field enables it with its balance at its burst cap,
its state NORMAL and its counts, sign and accumulators cleared, noted in a refill pass under way; its closing record
stays, but while an evaluation pass runs it becomes EVALUATED; one already enabled is left as it is, and so is one
already disabled by a write of no; a write of no to entry 0 is refused. R33, R71, R158: a write of no to an enabled
entry of 1 to 47 discards and answers DEFER every transaction held for it, counting each as a deferral (while the
upstream link is down the answers are discarded, R11, and each is counted all the same), sets its balance to 0 and its state to DISABLED and takes it off the rescue list; a discarded write's cells are freed at once if
its data is COMPLETE, and drain if it is RECEIVING, which is a wake (R40, R82); pressure is evaluated once, and nothing
else is posted; a search that had named one of them goes on after it (R91); other entries' held work, flights, closing
records and configuration stay. (The order of the DEFER answers: assumption 4; the note in the pass: assumption 36.) -/
def Obligations.EnablingAndDisablingAnEntry : Prop :=
  (∀ (s : State) (e : EntryIx), s.powered = true → Settled s →
    let index : Byte := BitVec.ofNat 8 e.val
    let m := s.mu.entries[e]
    (s.rmu.entries[e].enabled = false →
        exec (.enable index) s
          = .next { s with
                    rmu := { s.rmu with entries := s.rmu.entries.set e { s.rmu.entries[e] with enabled := true } },
                    ce := { s.ce with
                            records := s.ce.records.set e
                              { s.ce.records[e] with balance := s.rmu.entries[e].burst },
                            pass := s.ce.pass.map fun p => { p with enabledSince := p.enabledSince.insert e } },
                    mu := { s.mu with
                            entries := s.mu.entries.set e
                              { state := .normal, released := 0, backlog := false, deferrals := 0, overCount := 0,
                                starveCount := 0, clearCount := 0, lastSign := .unknown,
                                closing := { m.closing with
                                           evaluation := if s.mu.pass = none then m.closing.evaluation
                                                         else .evaluated } } },
                    mp := { s.mp with answer := some ⟨.done, 1⟩ } })
      ∧ (s.rmu.entries[e].enabled = true →
        exec (.enable index) s = .next { s with mp := { s.mp with answer := some ⟨.done, 1⟩ } })
      ∧ (e ≠ 0 → s.rmu.entries[e].enabled = false →
        exec (.disable index) s = .next { s with mp := { s.mp with answer := some ⟨.done, 0⟩ } })
      ∧ (s.rmu.entries[0].enabled = true →
        exec (.disable 0) s = .next { s with mp := { s.mp with answer := some ⟨.badTarget, 1⟩ } }))
    ∧ (∀ (s : State) (e : EntryIx), s.powered = true → Settled s → e ≠ 0 → s.rmu.entries[e].enabled = true →
    let gone := s.hs.held.filter fun d => d.entry == e
    ∃ t, exec (.disable (BitVec.ofNat 8 e.val)) s = .next t
      ∧ t.rmu = { s.rmu with entries := s.rmu.entries.set e { s.rmu.entries[e] with enabled := false } }
      ∧ t.hs = { s.hs with held := s.hs.held.filter (fun d => d.entry != e), reservations := t.hs.reservations,
                           pressureOn := t.hs.pressureOn, retryDue := t.hs.retryDue }
      ∧ t.up = { s.up with generated :=
                   if s.up.linkUp then s.up.generated ++ gone.map fun d => answerTxn d.txn .defer
                   else s.up.generated }
      ∧ t.ce = { s.ce with records := s.ce.records.set e { s.ce.records[e] with balance := 0 } }
      ∧ t.mu = { s.mu with entries := s.mu.entries.set e { s.mu.entries[e] with state := .disabled },
                           rescueList := s.mu.rescueList.filter (· != e) }
      ∧ t.fu = { s.fu with
                 counters := s.fu.counters.set e
                   { s.fu.counters[e] with
                     deferrals := min (2 ^ 32 - 1) (s.fu.counters[e].deferrals + gone.length) } }
      ∧ t.gw = { s.gw with lanes := t.gw.lanes } ∧ t.dp = s.dp ∧ t.clu = s.clu
      ∧ (let judged := evaluatePressure { s with hs := { t.hs with pressureOn := s.hs.pressureOn } }
         t.hs.pressureOn = judged.hs.pressureOn ∧ t.mp = { judged.mp with answer := some ⟨.done, 0⟩ })
      ∧ (let cut := s.hs.reservations.filter fun r =>
           r.data == .receiving && gone.any fun d => d.cells == some (firstCell r)
         let named := namesGone (fun d => d.entry == e) s
         t.gw.lanes = (wakes cut.length named).gw.lanes ∧ t.freeUsed = named.freeUsed)
      ∧ t.hs.retryDue = (s.hs.retryDue || (s.hs.stalled && !gone.isEmpty))
      ∧ (∀ c, (∀ d ∈ gone, d.cells ≠ some c) → reservationAt t c = reservationAt s c)
      ∧ (PoolLaw s → ∀ d ∈ gone, ∀ c r, d.cells = some c → reservationAt s c = some r →
          (r.data = .complete ∨ r.data = .closed → reservationAt t c = none)
            ∧ (r.data = .receiving ∨ r.data = .draining →
                reservationAt t c = some { r with data := .draining, transmission := .done }))
      ∧ (∀ a : Nat, readByte t.hs.bytes a = readByte s.hs.bytes a))

/-- R105, R113, R116, R186: a write of an enabled entry's burst cap brings a balance above it down to it, and of a
disabled entry's leaves the balance; a write of PORT_EPOCH_BYTES brings a lent pool above it down to it. -/
def Obligations.CapWritesClampTheCredit : Prop :=
  ∀ (s : State) (v : Word), s.powered = true → Settled s →
    (∀ e : EntryIx,
        let cap := min v.toNat 65535
        exec (.setBurst (BitVec.ofNat 8 e.val) v) s
          = .next { s with
                    rmu := { s.rmu with entries := s.rmu.entries.set e { s.rmu.entries[e] with burst := cap } },
                    ce := { s.ce with
                            records :=
                              if s.rmu.entries[e].enabled then
                                s.ce.records.set e
                                  { s.ce.records[e] with balance := min s.ce.records[e].balance (cap : Int) }
                              else s.ce.records },
                    mp := { s.mp with answer := some ⟨if cap = v.toNat then .done else .clamped,
                                                      BitVec.ofNat 32 cap⟩ } })
      ∧ (let bytes := max 1 (min v.toNat 262143)
        exec (.portEpochBytesWrite v) s
          = .next { s with ce := { s.ce with portEpochBytes := bytes, lent := min s.ce.lent bytes },
                           mp := { s.mp with answer := some ⟨if bytes = v.toNat then .done else .clamped,
                                                             BitVec.ofNat 32 bytes⟩ } })

/-- R77, R186: a write of the lane split or the pacing stores it, and changes the applied setting and the lanes only by
a changeover, which comes at once when a stored setting then differs from the applied one and every wheel lane is
between rounds: both settings are applied and each lane begins as the new pacing gives. Otherwise nothing but the
stored setting changes, and the changeover waits. A code that names none is refused. (When a changeover is taken:
assumption 21.) -/
def Obligations.WheelSettingsWaitForTheRound : Prop :=
  ∀ (s : State), s.powered = true → Settled s →
    let lands := fun (i : Instr) (code : Nat) (w : State) =>
      let answered := { w with mp := { w.mp with answer := some ⟨.done, BitVec.ofNat 32 code⟩ } }
      (¬ ChangeoverDue w → exec i s = .next answered)
        ∧ (ChangeoverDue w → ∃ t, exec i s = .next t ∧ t = { answered with gw := t.gw } ∧ ChangedOver w t)
    (∀ x : LaneSplit, lands (.wheelSettingWrite .split (BitVec.ofNat 32 (splitCode x))) (splitCode x)
        { s with gw := { s.gw with storedSplit := x } })
      ∧ (∀ x : Pacing, lands (.wheelSettingWrite .pacing (BitVec.ofNat 32 (pacingCode x))) (pacingCode x)
        { s with gw := { s.gw with storedPacing := x } })
      ∧ (∀ v : Word, 2 < v.toNat →
        exec (.wheelSettingWrite .split v) s
          = .next { s with mp := { s.mp with
                                   answer := some ⟨.badTarget, BitVec.ofNat 32 (splitCode s.gw.storedSplit)⟩ } })
      ∧ (∀ v : Word, 1 < v.toNat →
        exec (.wheelSettingWrite .pacing v) s
          = .next { s with mp := { s.mp with
                                   answer := some ⟨.badTarget, BitVec.ofNat 32 (pacingCode s.gw.storedPacing)⟩ } })

/-! ### The Management Port: modes, status, events, resets -/

/-- R78, R95 to R97, R164, R165: ENGAGE takes BYPASS to REGULATE under the stored settings, its lanes beginning and the
drain lane at rest; a release the drain lane holds passes to the lane that releases its kind, unless that lane holds
one, and every other release stays where it is. The BYPASS command takes REGULATE to BYPASS, where the drain lane
searches, or takes over the granted release that was released first; HALT stops the active lanes that hold no granted
release and remembers the mode; RESUME returns to it, a changeover that is due being taken, and each STOPPED active lane
beginning at its first slot, or waiting in IDLE in PACED, the drain lane searching; a wheel lane that holds its release
with no round under way begins one first, as split lanes under SPLIT_LOCKED do that do not stand at one pair
(assumptions 12 and 37). A STOPPED lane that R77 holds for a changeover which is pending and not due begins all the
same, its mark cleared: R77 and R97 meet there, and that R97 wins is the model's choice (assumption 43). Each is
answered with the mode after it, and in a mode that may not take it is refused and changes nothing. (HALT leaves the
applied settings: assumption 21. That the BYPASS command leaves them too, though other ones may be pending as it abandons
the rounds, is the model's choice: assumption 49.) -/
def Obligations.ModeCommandsChangeTheMode : Prop :=
  ∀ (s : State), s.powered = true → Settled s →
    let mode := fun (m : Mode) (r : RunMode) =>
      { s.mp with mode := m, remembered := r, answer := some ⟨.done, BitVec.ofNat 32 (modeCode m)⟩ }
    let wheelOnly := fun (t : State) (mp : ManagementPort) =>
      t = { s with mp := mp, gw := { s.gw with lanes := t.gw.lanes, grants := t.gw.grants,
                                               appliedSplit := t.gw.appliedSplit,
                                               appliedPacing := t.gw.appliedPacing } }
    let reads := fun (t : State) (l : LaneName) (st : LaneState) =>
      laneState t l = if (grantOf t l).isSome then .waitingLink else st
    let refused := Host.Outcome.next (φ := Fault) (ρ := Refusal)
      { s with mp := { s.mp with answer := some ⟨.refusedState, BitVec.ofNat 32 (modeCode s.mp.mode)⟩ } }
    (s.mp.mode = .bypass → ∃ t, exec .engage s = .next t ∧ wheelOnly t (mode .regulate s.mp.remembered)
        ∧ t.gw.appliedSplit = s.gw.storedSplit ∧ t.gw.appliedPacing = s.gw.storedPacing
        ∧ (grantOf s .drain = none → t.gw.grants = s.gw.grants)
        ∧ (∀ g, grantOf s .drain = some g →
            let l : LaneName :=
              if s.gw.storedSplit = .shared then .shared else if g.txn.kind = .read then .read else .write
            (grantOf s l ≠ none → t.gw.grants = s.gw.grants)
              ∧ (grantOf s l = none →
                  t.gw.grants = s.gw.grants.map fun x => if x.holder = .drain then { x with holder := l } else x))
        ∧ reads t .drain .idle
        ∧ (∀ l ∈ activeLanes .regulate s.gw.storedSplit,
            reads t l (if s.dp.linkUp = false then .stopped else if s.gw.storedPacing = .paced then .idle else .walking)
              ∧ (s.dp.linkUp = true → s.gw.storedPacing = .continuous → (t.gw.lanes.get l).slot = firstSlot l))
        ∧ (∀ l, l ≠ .drain → l ∉ activeLanes .regulate s.gw.storedSplit → reads t l .idle))
      ∧ (s.mp.mode = .regulate → ∃ t, exec .bypass s = .next t ∧ wheelOnly t (mode .bypass s.mp.remembered)
        ∧ t.gw.appliedSplit = s.gw.appliedSplit ∧ t.gw.appliedPacing = s.gw.appliedPacing
        ∧ (grantOf s .drain ≠ none ∨ s.gw.grants = [] → t.gw.grants = s.gw.grants)
        ∧ (∀ g rest, grantOf s .drain = none → s.gw.grants = g :: rest →
            t.gw.grants = { g with holder := .drain } :: rest)
        ∧ reads t .drain (if s.dp.linkUp then .walking else .stopped) ∧ (∀ l, l ≠ .drain → reads t l .idle))
      ∧ (s.mp.mode ≠ .halted → ∃ t, exec .halt s = .next t
        ∧ wheelOnly t (mode .halted (if s.mp.mode = .bypass then .bypass else .regulate))
        ∧ t.gw.grants = s.gw.grants ∧ t.gw.appliedSplit = s.gw.appliedSplit
        ∧ t.gw.appliedPacing = s.gw.appliedPacing ∧ (∀ l ∈ lanesActive s, reads t l .stopped))
      ∧ (s.mp.mode = .halted → ∃ t, exec .resume s = .next t
        ∧ wheelOnly t (mode (if s.mp.remembered = .bypass then .bypass else .regulate) s.mp.remembered)
        ∧ t.gw.grants = s.gw.grants ∧ (s.dp.linkUp = false → t.gw = s.gw)
        ∧ (s.dp.linkUp = true →
          let inStep := (s.gw.lanes.get .read).motion = .walking ∧ (s.gw.lanes.get .write).motion = .walking
            ∧ (s.gw.lanes.get .write).slot.val = (s.gw.lanes.get .read).slot.val + 8
          let begins := fun (l : LaneName) (x : Lane) =>
            if s.gw.appliedPacing = .paced then { x with motion := .idle } else begunLane l (grantOf s l).isSome
          let rejoined := fun l : LaneName =>
            let x := s.gw.lanes.get l
            if l ∈ wheelLanes s ∧ s.gw.appliedSplit = .splitLocked ∧ ¬ inStep ∧ x.motion = .walking then begins l x else x
          let held := fun l : LaneName =>
            if l ∈ wheelLanes s ∧ (grantOf s l).isSome = true ∧ (rejoined l).motion = .idle then begins l (rejoined l)
            else rejoined l
          LanesStarted
            { s with mp := t.mp,
                     gw := { s.gw with lanes := ⟨held .read, held .write, held .shared, s.gw.lanes.drain⟩ } } t))
      ∧ (s.mp.mode ≠ .bypass → exec .engage s = refused) ∧ (s.mp.mode ≠ .regulate → exec .bypass s = refused)
      ∧ (s.mp.mode = .halted → exec .halt s = refused) ∧ (s.mp.mode ≠ .halted → exec .resume s = refused)

/-- R172, R182, R192: SOFT RESET empties the event queue and the counter holding register as the Management Port's own
act, and hands the reset to six blocks, answering DONE with the live status; the mode, READY, the mask, EVENT_LOST and
every other state of the port stay. R173: any number of their acts come in the same step, before or after the port's
own; of the others one comes in each step that finds no command waiting; other commands meet a state in which they are
still due. R184: a frame finds them all taken. R63: the Hold Store discards and answers DEFER everything held, its
writes' cells freed or draining, pressure evaluated once, a stalled head's retry due. R99: the Grant Wheel sets the
pointers to 0 and takes a changeover, each lane beginning as its pacing gives. R120: balances go to their burst caps,
the lent pool to 0, and a running pass ends with a wake, its lending accumulator discarded. R142: the counters are cleared.
R163: every requester state, count, accumulator and record of the Meter Unit, the window count and the rescue list are
cleared. R182, R183: the run stops, the arm flag and the countdown are cleared; the write of the entry the run had come
to may have been handed to its owner, and lands then. Each act leaves everything else, configuration, flights, links,
granted releases and the counters of epochs and arrivals among it. (Which act comes when: assumption 47; the order of
the DEFER answers: assumption 4; whether a write was handed: assumption 40; a search that had named a head: 46. The
lending accumulator is 0 after the Credit Engine's act with or without a pass running: R120 says only that a running
pass's accumulator is discarded, and the rest is the model's choice, assumption 48.) -/
def Obligations.SoftResetKeepsModeAndConfiguration : Prop :=
  let due := fun (bs : List ResetBlock) (s : State) => { s with mp := { s.mp with resetsDue := bs } }
  let drawn := fun s : State => { s with freeUsed := s.freeUsed + 1 }
  let flight := fun (u t : State) =>
    t = { u with fu := { u.fu with counters := t.fu.counters } } ∧ ∀ e : EntryIx, t.fu.counters[e] = ⟨0, 0, 0, 0⟩
  let meter := fun (u t : State) =>
    t = { u with mu := { u.mu with windowCount := 0, pass := none, heldClose := none, rescueList := [],
                                   entries := t.mu.entries } }
      ∧ ∀ e : EntryIx, t.mu.entries[e]
        = { state := if u.rmu.entries[e].enabled then .normal else .disabled, released := 0, backlog := false,
            deferrals := 0, closing := ⟨0, 0, false, 0, 0, .evaluated, false⟩, overCount := 0, starveCount := 0,
            clearCount := 0, lastSign := .unknown }
  let credit := fun (u t : State) =>
    t = { u with ce := { u.ce with records := t.ce.records, lent := 0, accumulator := 0, pass := none },
                 gw := if u.ce.pass = none then u.gw else (wake u).gw }
      ∧ ∀ e : EntryIx, t.ce.records[e].formulaRefill = u.ce.records[e].formulaRefill
        ∧ t.ce.records[e].balance
          = if u.rmu.entries[e].enabled then (u.rmu.entries[e].burst : Int) else u.ce.records[e].balance
  let hold := fun (u t : State) =>
    let cut := u.hs.reservations.filter fun r =>
      r.data == .receiving && u.hs.held.any fun d => d.cells == some (firstCell r)
    let named := namesGone (fun _ => true) u
    let judged := evaluatePressure { u with hs := { t.hs with pressureOn := u.hs.pressureOn } }
    t = { u with hs := { u.hs with held := [], reservations := t.hs.reservations, pressureOn := judged.hs.pressureOn,
                                   retryDue := u.hs.retryDue || (u.hs.stalled && !u.hs.held.isEmpty) },
                 up := { u.up with generated :=
                           if u.up.linkUp then u.up.generated ++ u.hs.held.map fun d => answerTxn d.txn .defer
                           else u.up.generated },
                 gw := { u.gw with lanes := (wakes cut.length named).gw.lanes },
                 mp := judged.mp, freeUsed := named.freeUsed }
      ∧ (∀ c, (∀ d ∈ u.hs.held, d.cells ≠ some c) → reservationAt t c = reservationAt u c)
      ∧ (PoolLaw u → ∀ d ∈ u.hs.held, ∀ c r, d.cells = some c → reservationAt u c = some r →
          (r.data = .complete ∨ r.data = .closed → reservationAt t c = none)
            ∧ (r.data = .receiving ∨ r.data = .draining →
                reservationAt t c = some { r with data := .draining, transmission := .done }))
  let wheel := fun (u t : State) =>
    let x := u.gw.lanes.drain
    let cleared := { u with gw := { u.gw with readPointers := ⟨0, 0, 0, 0⟩, writePointers := ⟨0, 0, 0, 0⟩ } }
    t = { u with gw := t.gw } ∧ ChangedOver cleared { t with gw := { t.gw with lanes := { t.gw.lanes with drain := x } } }
      ∧ t.gw.lanes.drain
        = if effectiveMode u = .bypass ∧ u.mp.mode ≠ .halted ∧ u.dp.linkUp = true then { x with motion := .walking } else x
  let list := fun (u t : State) =>
    let stopped := { u with clu := { u.clu with armed := false, countdown := none, run := none } }
    (u.clu.run = none → t = stopped)
      ∧ (∀ p, u.clu.run = some p →
        let x := u.clu.list[p]
        t = drawn stopped
          ∨ ∃ k, listKindOf x.kind.toNat = some k ∧ t = drawn (applyKind k x.target.toNat x.value stopped).1)
  let act : ResetBlock → State → State → Prop := fun b =>
    match b with
    | .hold => hold
    | .wheel => wheel
    | .credit => credit
    | .flight => flight
    | .meter => meter
    | .list => list
  (∀ (s : State) (pin : Bool), s.powered = true → Settled s →
      let handed := due [.hold, .wheel, .credit, .flight, .meter, .list] (drawn s)
      let emptied := fun u : State => drawn { u with mp := { u.mp with events := [], holding := none } }
      ∃ n m : Nat, n + m ≤ 6
        ∧ (let t := takeActs m (emptied (takeActs n handed))
           exec (.softReset pin) s
             = .next { t with mp := { t.mp with answer := some ⟨.done, BitVec.ofNat 32 (liveStatus pin t)⟩ } }))
    ∧ (∀ s : State, takeActs 0 s = s ∧ (∀ n, takeActs (n + 1) s = takeActs n (takeAct s))
      ∧ (Settled s → takeAct s = s)
      ∧ (¬ Settled s → ∃ b ∈ s.mp.resetsDue, act b (due (s.mp.resetsDue.erase b) (drawn s)) (takeAct s)
          ∧ (takeAct s).mp.resetsDue = s.mp.resetsDue.erase b)
      ∧ (s.powered = true → s.pending = [] → step s = .next (takeAct s)))
    ∧ (∀ (c : Instr) (f : Frame) (s : State), s.powered = true → ¬ Settled s → frameOf c = some f →
      exec c s = exec c (takeActs s.mp.resetsDue.length s) ∧ Settled (takeActs s.mp.resetsDue.length s))
    ∧ (∀ (c : Instr) (s t : State), exec c s = .next t → (∀ p, c ≠ .powerOnReset p) → (∀ p, c ≠ .softReset p) →
      (frameOf c = none ∨ s.powered = false → t.mp.resetsDue = s.mp.resetsDue)
        ∧ (frameOf c ≠ none → s.powered = true → Settled t))

/-- R142, R171, R184, R185, R188: READ STATUS answers the live status, each item in its place; CLEAR STATUS clears
EVENT_LOST when bit 11 is set and answers the status after it; CLEAR COUNTERS clears every counter and the holding
register; a code that names no command is answered BAD_TARGET with 0, and a frame cut short has no effect. (The PACE
level as an operand: assumption 11.) -/
def Obligations.StatusIsAnsweredAsItStands : Prop :=
  (∀ (s : State) (pin : Bool),
      let w := liveStatus pin s
      let bit := fun (n : Nat) (b : Bool) => w / 2 ^ n % 2 = if b then 1 else 0
      w % 4 = modeCode s.mp.mode ∧ bit 2 (s.mp.remembered == .regulate) ∧ bit 3 s.mp.ready ∧ bit 4 s.hs.pressureOn
        ∧ bit 5 s.ce.overcommit ∧ bit 6 s.clu.run.isSome ∧ bit 7 s.clu.armed ∧ bit 8 s.up.linkUp
        ∧ bit 9 s.dp.linkUp ∧ bit 10 (if s.mp.paceDirection = .output then s.mp.pulse else pin)
        ∧ bit 11 s.mp.eventLost ∧ w / 2 ^ 16 = s.mp.events.length)
    ∧ (∀ (s : State) (pin : Bool) (v : Word) (c : Byte), s.powered = true → Settled s →
        let answered := fun (t : State) (code : AnswerCode) (n : Nat) =>
          Host.Outcome.next (φ := Fault) (ρ := Refusal)
            { t with mp := { t.mp with answer := some ⟨code, BitVec.ofNat 32 n⟩ } }
        let kept := { s with mp := { s.mp with eventLost := s.mp.eventLost && !v.getLsbD 11 } }
        exec (.readStatus pin) s = answered s .done (liveStatus pin s)
          ∧ exec (.clearStatus v pin) s = answered kept .done (liveStatus pin kept)
          ∧ exec .clearCounters s
            = answered { s with fu := { s.fu with counters := Vector.ofFn fun _ => ⟨0, 0, 0, 0⟩ },
                                mp := { s.mp with holding := none } } .done 0
          ∧ exec (.unknownCommand c) s = answered s .badTarget 0
          ∧ exec .frameAbort s = .next s)

/-- R190: POP EVENT removes the head of the queue, copies its value into the popped value, 0 when it has none, and
answers the record head; on an empty queue it is refused; the popped value is read as GLOBAL field 24h and keeps its
value until the next POP EVENT; after a POP a full queue takes a post again, and while it is full a post is dropped and
sets EVENT_LOST; a frame cut short afterwards does not bring the record back. -/
def Obligations.PopEventTakesTheOldestRecord : Prop :=
  (∀ (s : State) (r : EventRecord) (rest : List EventRecord), s.powered = true → Settled s → s.mp.events = r :: rest →
      let index := match r.entry with
        | some e => e.val
        | none => 255
      let t := { s with mp := { s.mp with
                                events := rest, popped := r.value.getD 0,
                                answer := some ⟨.done, BitVec.ofNat 32
                                  (eventCode r.kind * 2 ^ 24 + index * 2 ^ 16 + r.stamp.toNat)⟩ } }
      exec .popEvent s = .next t ∧ exec .frameAbort t = .next t
        ∧ (∀ k e v, s.mp.events.length = 32 → s.mp.eventMask.getLsbD (eventCode k) = true →
            (postEvent k e v t).mp.events = rest ++ [⟨k, e, v.map (BitVec.ofNat 32), s.ce.epochCounter⟩]
              ∧ (postEvent k e v s).mp.events = s.mp.events ∧ (postEvent k e v s).mp.eventLost = true))
    ∧ (∀ s : State, s.powered = true → Settled s → s.mp.events = [] →
        exec .popEvent s = .next { s with mp := { s.mp with answer := some ⟨.refusedState, 0⟩ } })
    ∧ (∀ s : State, s.powered = true → Settled s →
        exec (.readField 4 0 0x24) s = .next { s with mp := { s.mp with answer := some ⟨.done, s.mp.popped⟩ } })
    ∧ (∀ (c : Instr) (s t : State), exec c s = .next t → c ≠ .popEvent → (∀ p, c ≠ .powerOnReset p) →
        t.mp.popped = s.mp.popped)

/-- R191: ALERT is asserted exactly while PORn is high and the event queue holds a record; a pop of the last record and
a soft reset that leaves the queue empty deassert it, a post that queues a record asserts it, a masked or dropped post
leaves it, and it is deasserted while PORn is low and at the end of power-on reset. -/
def Obligations.AlertFollowsTheEventQueue : Prop :=
  (∀ s : State, s.powered = true → (alert s = true ↔ s.mp.events ≠ []))
    ∧ (∀ (s t : State) (r : EventRecord), s.powered = true → Settled s → s.mp.events = [r] → exec .popEvent s = .next t →
        alert t = false)
    ∧ (∀ (s t : State) (pin : Bool), s.powered = true → exec (.softReset pin) s = .next t → t.mp.events = [] →
        alert t = false)
    ∧ (∀ (k : EventKind) (e : Option EntryIx) (v : Option Nat) (s : State), s.powered = true →
        (s.mp.eventMask.getLsbD (eventCode k) = true → s.mp.events = [] → alert (postEvent k e v s) = true)
          ∧ (s.mp.eventMask.getLsbD (eventCode k) = false ∨ s.mp.events.length = 32 →
              alert (postEvent k e v s) = alert s))
    ∧ (∀ s : State, s.powered = false → alert s = false)
    ∧ (∀ s t : State, exec .powerOnResetAsserted s = .next t → alert t = false)
    ∧ (∀ (s t : State) (strap : Bool), exec (.powerOnReset strap) s = .next t → alert t = false)

/-- R38: the arrival counter is 0 after power-on reset; a hold stamps its descriptor with the counter's value and
advances it by one, from 2^32 − 1 to 0, also when beats or a closing event of the write wait in the queue and even if
they discard it in the same act; a disposition that holds nothing, whatever it does with its head, and every other
command, resets and link events among them, leaves it. -/
def Obligations.ArrivalCounterStampsHolds : Prop :=
  (∀ (s t : State) (strap : Bool), exec (.powerOnReset strap) s = .next t → t.hs.arrivalCounter = 0)
    ∧ (∀ (c : Instr) (s t : State), exec c s = .next t → c ≠ .disposition → (∀ p, c ≠ .powerOnReset p) →
        t.hs.arrivalCounter = s.hs.arrivalCounter)
    ∧ (∀ s t : State, exec .disposition s = .next t →
        (∀ p rest e, s.powered = true → s.up.queue = p :: rest → headOffered s = true → verdictOf p.header s ≠ .hold e) →
        t.hs.arrivalCounter = s.hs.arrivalCounter ∧ t.hs.held = s.hs.held)
    ∧ (∀ (s t : State) (p : ArrivalPacket) (rest : List ArrivalPacket) (e : EntryIx), s.powered = true →
        s.up.queue = p :: rest → headOffered s = true → verdictOf p.header s = .hold e →
        exec .disposition s = .next t →
        t.hs.arrivalCounter = s.hs.arrivalCounter + 1
          ∧ (∀ d ∈ t.hs.held, (d.stamp = s.hs.arrivalCounter ∧ d.txn = txnOf p.header ∧ d.entry = e
                ∧ ∀ x ∈ s.hs.held, x.number ≠ d.number)
              ∨ ∃ x ∈ s.hs.held, x.number = d.number ∧ x.stamp = d.stamp ∧ x.txn = d.txn)
          ∧ (p.closing = none → p.beats = [] → ∃ d, t.hs.held = s.hs.held ++ [d] ∧ d.stamp = s.hs.arrivalCounter)
          ∧ ((∀ b ∈ p.beats.dropLast, b.length = 64) → p.beats.flatten.length ≤ txnLength (txnOf p.header) →
              p.closing = none → PoolLaw s →
              ∃ d, t.hs.held = s.hs.held ++ [d] ∧ d.stamp = s.hs.arrivalCounter))
    ∧ (0xFFFFFFFF : BitVec 32) + 1 = 0
end

