-- ==== Sys2Proof/Laws/State.lean ====
section
/-! SUPPORT. One lemma per field of State per block update, so that no proof unfolds a record update; and the tables
by class and by lane read after a write. -/

namespace Sys2Proof.Machine

/-! ### The update of `up` -/

@[simp] theorem State.onUp_powered (f : UpPort → UpPort) (s : State) : (s.onUp f).powered = s.powered := rfl
@[simp] theorem State.onUp_up (f : UpPort → UpPort) (s : State) : (s.onUp f).up = f s.up := rfl
@[simp] theorem State.onUp_dp (f : UpPort → UpPort) (s : State) : (s.onUp f).dp = s.dp := rfl
@[simp] theorem State.onUp_rmu (f : UpPort → UpPort) (s : State) : (s.onUp f).rmu = s.rmu := rfl
@[simp] theorem State.onUp_hs (f : UpPort → UpPort) (s : State) : (s.onUp f).hs = s.hs := rfl
@[simp] theorem State.onUp_gw (f : UpPort → UpPort) (s : State) : (s.onUp f).gw = s.gw := rfl
@[simp] theorem State.onUp_ce (f : UpPort → UpPort) (s : State) : (s.onUp f).ce = s.ce := rfl
@[simp] theorem State.onUp_fu (f : UpPort → UpPort) (s : State) : (s.onUp f).fu = s.fu := rfl
@[simp] theorem State.onUp_mu (f : UpPort → UpPort) (s : State) : (s.onUp f).mu = s.mu := rfl
@[simp] theorem State.onUp_clu (f : UpPort → UpPort) (s : State) : (s.onUp f).clu = s.clu := rfl
@[simp] theorem State.onUp_mp (f : UpPort → UpPort) (s : State) : (s.onUp f).mp = s.mp := rfl
@[simp] theorem State.onUp_pending (f : UpPort → UpPort) (s : State) : (s.onUp f).pending = s.pending := rfl
@[simp] theorem State.onUp_freeUsed (f : UpPort → UpPort) (s : State) : (s.onUp f).freeUsed = s.freeUsed := rfl

/-! ### The update of `dp` -/

@[simp] theorem State.onDp_powered (f : DownPort → DownPort) (s : State) : (s.onDp f).powered = s.powered := rfl
@[simp] theorem State.onDp_up (f : DownPort → DownPort) (s : State) : (s.onDp f).up = s.up := rfl
@[simp] theorem State.onDp_dp (f : DownPort → DownPort) (s : State) : (s.onDp f).dp = f s.dp := rfl
@[simp] theorem State.onDp_rmu (f : DownPort → DownPort) (s : State) : (s.onDp f).rmu = s.rmu := rfl
@[simp] theorem State.onDp_hs (f : DownPort → DownPort) (s : State) : (s.onDp f).hs = s.hs := rfl
@[simp] theorem State.onDp_gw (f : DownPort → DownPort) (s : State) : (s.onDp f).gw = s.gw := rfl
@[simp] theorem State.onDp_ce (f : DownPort → DownPort) (s : State) : (s.onDp f).ce = s.ce := rfl
@[simp] theorem State.onDp_fu (f : DownPort → DownPort) (s : State) : (s.onDp f).fu = s.fu := rfl
@[simp] theorem State.onDp_mu (f : DownPort → DownPort) (s : State) : (s.onDp f).mu = s.mu := rfl
@[simp] theorem State.onDp_clu (f : DownPort → DownPort) (s : State) : (s.onDp f).clu = s.clu := rfl
@[simp] theorem State.onDp_mp (f : DownPort → DownPort) (s : State) : (s.onDp f).mp = s.mp := rfl
@[simp] theorem State.onDp_pending (f : DownPort → DownPort) (s : State) : (s.onDp f).pending = s.pending := rfl
@[simp] theorem State.onDp_freeUsed (f : DownPort → DownPort) (s : State) : (s.onDp f).freeUsed = s.freeUsed := rfl

/-! ### The update of `rmu` -/

@[simp] theorem State.onRmu_powered (f : MatchUnit → MatchUnit) (s : State) : (s.onRmu f).powered = s.powered := rfl
@[simp] theorem State.onRmu_up (f : MatchUnit → MatchUnit) (s : State) : (s.onRmu f).up = s.up := rfl
@[simp] theorem State.onRmu_dp (f : MatchUnit → MatchUnit) (s : State) : (s.onRmu f).dp = s.dp := rfl
@[simp] theorem State.onRmu_rmu (f : MatchUnit → MatchUnit) (s : State) : (s.onRmu f).rmu = f s.rmu := rfl
@[simp] theorem State.onRmu_hs (f : MatchUnit → MatchUnit) (s : State) : (s.onRmu f).hs = s.hs := rfl
@[simp] theorem State.onRmu_gw (f : MatchUnit → MatchUnit) (s : State) : (s.onRmu f).gw = s.gw := rfl
@[simp] theorem State.onRmu_ce (f : MatchUnit → MatchUnit) (s : State) : (s.onRmu f).ce = s.ce := rfl
@[simp] theorem State.onRmu_fu (f : MatchUnit → MatchUnit) (s : State) : (s.onRmu f).fu = s.fu := rfl
@[simp] theorem State.onRmu_mu (f : MatchUnit → MatchUnit) (s : State) : (s.onRmu f).mu = s.mu := rfl
@[simp] theorem State.onRmu_clu (f : MatchUnit → MatchUnit) (s : State) : (s.onRmu f).clu = s.clu := rfl
@[simp] theorem State.onRmu_mp (f : MatchUnit → MatchUnit) (s : State) : (s.onRmu f).mp = s.mp := rfl
@[simp] theorem State.onRmu_pending (f : MatchUnit → MatchUnit) (s : State) : (s.onRmu f).pending = s.pending := rfl
@[simp] theorem State.onRmu_freeUsed (f : MatchUnit → MatchUnit) (s : State) : (s.onRmu f).freeUsed = s.freeUsed := rfl

/-! ### The update of `hs` -/

@[simp] theorem State.onHs_powered (f : HoldStore → HoldStore) (s : State) : (s.onHs f).powered = s.powered := rfl
@[simp] theorem State.onHs_up (f : HoldStore → HoldStore) (s : State) : (s.onHs f).up = s.up := rfl
@[simp] theorem State.onHs_dp (f : HoldStore → HoldStore) (s : State) : (s.onHs f).dp = s.dp := rfl
@[simp] theorem State.onHs_rmu (f : HoldStore → HoldStore) (s : State) : (s.onHs f).rmu = s.rmu := rfl
@[simp] theorem State.onHs_hs (f : HoldStore → HoldStore) (s : State) : (s.onHs f).hs = f s.hs := rfl
@[simp] theorem State.onHs_gw (f : HoldStore → HoldStore) (s : State) : (s.onHs f).gw = s.gw := rfl
@[simp] theorem State.onHs_ce (f : HoldStore → HoldStore) (s : State) : (s.onHs f).ce = s.ce := rfl
@[simp] theorem State.onHs_fu (f : HoldStore → HoldStore) (s : State) : (s.onHs f).fu = s.fu := rfl
@[simp] theorem State.onHs_mu (f : HoldStore → HoldStore) (s : State) : (s.onHs f).mu = s.mu := rfl
@[simp] theorem State.onHs_clu (f : HoldStore → HoldStore) (s : State) : (s.onHs f).clu = s.clu := rfl
@[simp] theorem State.onHs_mp (f : HoldStore → HoldStore) (s : State) : (s.onHs f).mp = s.mp := rfl
@[simp] theorem State.onHs_pending (f : HoldStore → HoldStore) (s : State) : (s.onHs f).pending = s.pending := rfl
@[simp] theorem State.onHs_freeUsed (f : HoldStore → HoldStore) (s : State) : (s.onHs f).freeUsed = s.freeUsed := rfl

/-! ### The update of `gw` -/

@[simp] theorem State.onGw_powered (f : GrantWheel → GrantWheel) (s : State) : (s.onGw f).powered = s.powered := rfl
@[simp] theorem State.onGw_up (f : GrantWheel → GrantWheel) (s : State) : (s.onGw f).up = s.up := rfl
@[simp] theorem State.onGw_dp (f : GrantWheel → GrantWheel) (s : State) : (s.onGw f).dp = s.dp := rfl
@[simp] theorem State.onGw_rmu (f : GrantWheel → GrantWheel) (s : State) : (s.onGw f).rmu = s.rmu := rfl
@[simp] theorem State.onGw_hs (f : GrantWheel → GrantWheel) (s : State) : (s.onGw f).hs = s.hs := rfl
@[simp] theorem State.onGw_gw (f : GrantWheel → GrantWheel) (s : State) : (s.onGw f).gw = f s.gw := rfl
@[simp] theorem State.onGw_ce (f : GrantWheel → GrantWheel) (s : State) : (s.onGw f).ce = s.ce := rfl
@[simp] theorem State.onGw_fu (f : GrantWheel → GrantWheel) (s : State) : (s.onGw f).fu = s.fu := rfl
@[simp] theorem State.onGw_mu (f : GrantWheel → GrantWheel) (s : State) : (s.onGw f).mu = s.mu := rfl
@[simp] theorem State.onGw_clu (f : GrantWheel → GrantWheel) (s : State) : (s.onGw f).clu = s.clu := rfl
@[simp] theorem State.onGw_mp (f : GrantWheel → GrantWheel) (s : State) : (s.onGw f).mp = s.mp := rfl
@[simp] theorem State.onGw_pending (f : GrantWheel → GrantWheel) (s : State) : (s.onGw f).pending = s.pending := rfl
@[simp] theorem State.onGw_freeUsed (f : GrantWheel → GrantWheel) (s : State) : (s.onGw f).freeUsed = s.freeUsed := rfl

/-! ### The update of `ce` -/

@[simp] theorem State.onCe_powered (f : CreditEngine → CreditEngine) (s : State) : (s.onCe f).powered = s.powered := rfl
@[simp] theorem State.onCe_up (f : CreditEngine → CreditEngine) (s : State) : (s.onCe f).up = s.up := rfl
@[simp] theorem State.onCe_dp (f : CreditEngine → CreditEngine) (s : State) : (s.onCe f).dp = s.dp := rfl
@[simp] theorem State.onCe_rmu (f : CreditEngine → CreditEngine) (s : State) : (s.onCe f).rmu = s.rmu := rfl
@[simp] theorem State.onCe_hs (f : CreditEngine → CreditEngine) (s : State) : (s.onCe f).hs = s.hs := rfl
@[simp] theorem State.onCe_gw (f : CreditEngine → CreditEngine) (s : State) : (s.onCe f).gw = s.gw := rfl
@[simp] theorem State.onCe_ce (f : CreditEngine → CreditEngine) (s : State) : (s.onCe f).ce = f s.ce := rfl
@[simp] theorem State.onCe_fu (f : CreditEngine → CreditEngine) (s : State) : (s.onCe f).fu = s.fu := rfl
@[simp] theorem State.onCe_mu (f : CreditEngine → CreditEngine) (s : State) : (s.onCe f).mu = s.mu := rfl
@[simp] theorem State.onCe_clu (f : CreditEngine → CreditEngine) (s : State) : (s.onCe f).clu = s.clu := rfl
@[simp] theorem State.onCe_mp (f : CreditEngine → CreditEngine) (s : State) : (s.onCe f).mp = s.mp := rfl
@[simp] theorem State.onCe_pending (f : CreditEngine → CreditEngine) (s : State) : (s.onCe f).pending = s.pending := rfl
@[simp] theorem State.onCe_freeUsed (f : CreditEngine → CreditEngine) (s : State) : (s.onCe f).freeUsed = s.freeUsed := rfl

/-! ### The update of `fu` -/

@[simp] theorem State.onFu_powered (f : FlightUnit → FlightUnit) (s : State) : (s.onFu f).powered = s.powered := rfl
@[simp] theorem State.onFu_up (f : FlightUnit → FlightUnit) (s : State) : (s.onFu f).up = s.up := rfl
@[simp] theorem State.onFu_dp (f : FlightUnit → FlightUnit) (s : State) : (s.onFu f).dp = s.dp := rfl
@[simp] theorem State.onFu_rmu (f : FlightUnit → FlightUnit) (s : State) : (s.onFu f).rmu = s.rmu := rfl
@[simp] theorem State.onFu_hs (f : FlightUnit → FlightUnit) (s : State) : (s.onFu f).hs = s.hs := rfl
@[simp] theorem State.onFu_gw (f : FlightUnit → FlightUnit) (s : State) : (s.onFu f).gw = s.gw := rfl
@[simp] theorem State.onFu_ce (f : FlightUnit → FlightUnit) (s : State) : (s.onFu f).ce = s.ce := rfl
@[simp] theorem State.onFu_fu (f : FlightUnit → FlightUnit) (s : State) : (s.onFu f).fu = f s.fu := rfl
@[simp] theorem State.onFu_mu (f : FlightUnit → FlightUnit) (s : State) : (s.onFu f).mu = s.mu := rfl
@[simp] theorem State.onFu_clu (f : FlightUnit → FlightUnit) (s : State) : (s.onFu f).clu = s.clu := rfl
@[simp] theorem State.onFu_mp (f : FlightUnit → FlightUnit) (s : State) : (s.onFu f).mp = s.mp := rfl
@[simp] theorem State.onFu_pending (f : FlightUnit → FlightUnit) (s : State) : (s.onFu f).pending = s.pending := rfl
@[simp] theorem State.onFu_freeUsed (f : FlightUnit → FlightUnit) (s : State) : (s.onFu f).freeUsed = s.freeUsed := rfl

/-! ### The update of `mu` -/

@[simp] theorem State.onMu_powered (f : MeterUnit → MeterUnit) (s : State) : (s.onMu f).powered = s.powered := rfl
@[simp] theorem State.onMu_up (f : MeterUnit → MeterUnit) (s : State) : (s.onMu f).up = s.up := rfl
@[simp] theorem State.onMu_dp (f : MeterUnit → MeterUnit) (s : State) : (s.onMu f).dp = s.dp := rfl
@[simp] theorem State.onMu_rmu (f : MeterUnit → MeterUnit) (s : State) : (s.onMu f).rmu = s.rmu := rfl
@[simp] theorem State.onMu_hs (f : MeterUnit → MeterUnit) (s : State) : (s.onMu f).hs = s.hs := rfl
@[simp] theorem State.onMu_gw (f : MeterUnit → MeterUnit) (s : State) : (s.onMu f).gw = s.gw := rfl
@[simp] theorem State.onMu_ce (f : MeterUnit → MeterUnit) (s : State) : (s.onMu f).ce = s.ce := rfl
@[simp] theorem State.onMu_fu (f : MeterUnit → MeterUnit) (s : State) : (s.onMu f).fu = s.fu := rfl
@[simp] theorem State.onMu_mu (f : MeterUnit → MeterUnit) (s : State) : (s.onMu f).mu = f s.mu := rfl
@[simp] theorem State.onMu_clu (f : MeterUnit → MeterUnit) (s : State) : (s.onMu f).clu = s.clu := rfl
@[simp] theorem State.onMu_mp (f : MeterUnit → MeterUnit) (s : State) : (s.onMu f).mp = s.mp := rfl
@[simp] theorem State.onMu_pending (f : MeterUnit → MeterUnit) (s : State) : (s.onMu f).pending = s.pending := rfl
@[simp] theorem State.onMu_freeUsed (f : MeterUnit → MeterUnit) (s : State) : (s.onMu f).freeUsed = s.freeUsed := rfl

/-! ### The update of `clu` -/

@[simp] theorem State.onClu_powered (f : ChangeList → ChangeList) (s : State) : (s.onClu f).powered = s.powered := rfl
@[simp] theorem State.onClu_up (f : ChangeList → ChangeList) (s : State) : (s.onClu f).up = s.up := rfl
@[simp] theorem State.onClu_dp (f : ChangeList → ChangeList) (s : State) : (s.onClu f).dp = s.dp := rfl
@[simp] theorem State.onClu_rmu (f : ChangeList → ChangeList) (s : State) : (s.onClu f).rmu = s.rmu := rfl
@[simp] theorem State.onClu_hs (f : ChangeList → ChangeList) (s : State) : (s.onClu f).hs = s.hs := rfl
@[simp] theorem State.onClu_gw (f : ChangeList → ChangeList) (s : State) : (s.onClu f).gw = s.gw := rfl
@[simp] theorem State.onClu_ce (f : ChangeList → ChangeList) (s : State) : (s.onClu f).ce = s.ce := rfl
@[simp] theorem State.onClu_fu (f : ChangeList → ChangeList) (s : State) : (s.onClu f).fu = s.fu := rfl
@[simp] theorem State.onClu_mu (f : ChangeList → ChangeList) (s : State) : (s.onClu f).mu = s.mu := rfl
@[simp] theorem State.onClu_clu (f : ChangeList → ChangeList) (s : State) : (s.onClu f).clu = f s.clu := rfl
@[simp] theorem State.onClu_mp (f : ChangeList → ChangeList) (s : State) : (s.onClu f).mp = s.mp := rfl
@[simp] theorem State.onClu_pending (f : ChangeList → ChangeList) (s : State) : (s.onClu f).pending = s.pending := rfl
@[simp] theorem State.onClu_freeUsed (f : ChangeList → ChangeList) (s : State) : (s.onClu f).freeUsed = s.freeUsed := rfl

/-! ### The update of `mp` -/

@[simp] theorem State.onMp_powered (f : ManagementPort → ManagementPort) (s : State) : (s.onMp f).powered = s.powered := rfl
@[simp] theorem State.onMp_up (f : ManagementPort → ManagementPort) (s : State) : (s.onMp f).up = s.up := rfl
@[simp] theorem State.onMp_dp (f : ManagementPort → ManagementPort) (s : State) : (s.onMp f).dp = s.dp := rfl
@[simp] theorem State.onMp_rmu (f : ManagementPort → ManagementPort) (s : State) : (s.onMp f).rmu = s.rmu := rfl
@[simp] theorem State.onMp_hs (f : ManagementPort → ManagementPort) (s : State) : (s.onMp f).hs = s.hs := rfl
@[simp] theorem State.onMp_gw (f : ManagementPort → ManagementPort) (s : State) : (s.onMp f).gw = s.gw := rfl
@[simp] theorem State.onMp_ce (f : ManagementPort → ManagementPort) (s : State) : (s.onMp f).ce = s.ce := rfl
@[simp] theorem State.onMp_fu (f : ManagementPort → ManagementPort) (s : State) : (s.onMp f).fu = s.fu := rfl
@[simp] theorem State.onMp_mu (f : ManagementPort → ManagementPort) (s : State) : (s.onMp f).mu = s.mu := rfl
@[simp] theorem State.onMp_clu (f : ManagementPort → ManagementPort) (s : State) : (s.onMp f).clu = s.clu := rfl
@[simp] theorem State.onMp_mp (f : ManagementPort → ManagementPort) (s : State) : (s.onMp f).mp = f s.mp := rfl
@[simp] theorem State.onMp_pending (f : ManagementPort → ManagementPort) (s : State) : (s.onMp f).pending = s.pending := rfl
@[simp] theorem State.onMp_freeUsed (f : ManagementPort → ManagementPort) (s : State) : (s.onMp f).freeUsed = s.freeUsed := rfl

/-! ### Tables by class and by lane -/

@[simp] theorem PerClass.get_set_self {α : Type} (t : PerClass α) (c : SvcClass) (a : α) : (t.set c a).get c = a := by
  cases c <;> rfl

theorem PerClass.get_set_ne {α : Type} (t : PerClass α) {c d : SvcClass} (h : d ≠ c) (a : α) :
    (t.set c a).get d = t.get d := by
  cases c <;> cases d <;> first | rfl | exact absurd rfl h

@[simp] theorem PerLane.get_set_self {α : Type} (t : PerLane α) (l : LaneName) (a : α) : (t.set l a).get l = a := by
  cases l <;> rfl

theorem PerLane.get_set_ne {α : Type} (t : PerLane α) {l m : LaneName} (h : m ≠ l) (a : α) :
    (t.set l a).get m = t.get m := by
  cases l <;> cases m <;> first | rfl | exact absurd rfl h

end Sys2Proof.Machine
end

