-- ==== Sys2Proof/Laws/FrameHold.lean ====
section
/-! SUPPORT. Which parts of the state the shared operations of the ports, the lanes, the Hold Store and the Flight Unit leave
alone: one lemma per operation and part. Each operation's lemmas together say once all that it can touch. -/

namespace Sys2Proof.Machine

/-- A fold whose every step keeps a part of the state keeps it. -/
theorem foldl_keeps {α β γ : Type} (p : α → γ) (f : α → β → α) (h : ∀ a b, p (f a b) = p a) (l : List β) (a : α) :
    p (l.foldl f a) = p a := by
  induction l generalizing a with
  | nil => rfl
  | cons b l ih => rw [List.foldl_cons, ih, h]

@[simp] theorem placeGenerated_powered (h : Header) (s : State) : (placeGenerated h s).powered = s.powered := by
  unfold placeGenerated; split <;> simp
@[simp] theorem placeGenerated_dp (h : Header) (s : State) : (placeGenerated h s).dp = s.dp := by
  unfold placeGenerated; split <;> simp
@[simp] theorem placeGenerated_rmu (h : Header) (s : State) : (placeGenerated h s).rmu = s.rmu := by
  unfold placeGenerated; split <;> simp
@[simp] theorem placeGenerated_hs (h : Header) (s : State) : (placeGenerated h s).hs = s.hs := by
  unfold placeGenerated; split <;> simp
@[simp] theorem placeGenerated_gw (h : Header) (s : State) : (placeGenerated h s).gw = s.gw := by
  unfold placeGenerated; split <;> simp
@[simp] theorem placeGenerated_ce (h : Header) (s : State) : (placeGenerated h s).ce = s.ce := by
  unfold placeGenerated; split <;> simp
@[simp] theorem placeGenerated_fu (h : Header) (s : State) : (placeGenerated h s).fu = s.fu := by
  unfold placeGenerated; split <;> simp
@[simp] theorem placeGenerated_mu (h : Header) (s : State) : (placeGenerated h s).mu = s.mu := by
  unfold placeGenerated; split <;> simp
@[simp] theorem placeGenerated_clu (h : Header) (s : State) : (placeGenerated h s).clu = s.clu := by
  unfold placeGenerated; split <;> simp
@[simp] theorem placeGenerated_mp (h : Header) (s : State) : (placeGenerated h s).mp = s.mp := by
  unfold placeGenerated; split <;> simp
@[simp] theorem placeGenerated_pending (h : Header) (s : State) : (placeGenerated h s).pending = s.pending := by
  unfold placeGenerated; split <;> simp
@[simp] theorem placeGenerated_freeUsed (h : Header) (s : State) : (placeGenerated h s).freeUsed = s.freeUsed := by
  unfold placeGenerated; split <;> simp
@[simp] theorem postEvent_powered (k : EventKind) (e : Option EntryIx) (v : Option Nat) (s : State) : (postEvent k e v s).powered = s.powered := by
  unfold postEvent; (repeat' split) <;> simp
@[simp] theorem postEvent_up (k : EventKind) (e : Option EntryIx) (v : Option Nat) (s : State) : (postEvent k e v s).up = s.up := by
  unfold postEvent; (repeat' split) <;> simp
@[simp] theorem postEvent_dp (k : EventKind) (e : Option EntryIx) (v : Option Nat) (s : State) : (postEvent k e v s).dp = s.dp := by
  unfold postEvent; (repeat' split) <;> simp
@[simp] theorem postEvent_rmu (k : EventKind) (e : Option EntryIx) (v : Option Nat) (s : State) : (postEvent k e v s).rmu = s.rmu := by
  unfold postEvent; (repeat' split) <;> simp
@[simp] theorem postEvent_hs (k : EventKind) (e : Option EntryIx) (v : Option Nat) (s : State) : (postEvent k e v s).hs = s.hs := by
  unfold postEvent; (repeat' split) <;> simp
@[simp] theorem postEvent_gw (k : EventKind) (e : Option EntryIx) (v : Option Nat) (s : State) : (postEvent k e v s).gw = s.gw := by
  unfold postEvent; (repeat' split) <;> simp
@[simp] theorem postEvent_ce (k : EventKind) (e : Option EntryIx) (v : Option Nat) (s : State) : (postEvent k e v s).ce = s.ce := by
  unfold postEvent; (repeat' split) <;> simp
@[simp] theorem postEvent_fu (k : EventKind) (e : Option EntryIx) (v : Option Nat) (s : State) : (postEvent k e v s).fu = s.fu := by
  unfold postEvent; (repeat' split) <;> simp
@[simp] theorem postEvent_mu (k : EventKind) (e : Option EntryIx) (v : Option Nat) (s : State) : (postEvent k e v s).mu = s.mu := by
  unfold postEvent; (repeat' split) <;> simp
@[simp] theorem postEvent_clu (k : EventKind) (e : Option EntryIx) (v : Option Nat) (s : State) : (postEvent k e v s).clu = s.clu := by
  unfold postEvent; (repeat' split) <;> simp
@[simp] theorem postEvent_pending (k : EventKind) (e : Option EntryIx) (v : Option Nat) (s : State) : (postEvent k e v s).pending = s.pending := by
  unfold postEvent; (repeat' split) <;> simp
@[simp] theorem postEvent_freeUsed (k : EventKind) (e : Option EntryIx) (v : Option Nat) (s : State) : (postEvent k e v s).freeUsed = s.freeUsed := by
  unfold postEvent; (repeat' split) <;> simp
@[simp] theorem postFault_powered (c : FaultCause) (e : Option EntryIx) (s : State) : (postFault c e s).powered = s.powered := by
  simp [postFault]
@[simp] theorem postFault_up (c : FaultCause) (e : Option EntryIx) (s : State) : (postFault c e s).up = s.up := by
  simp [postFault]
@[simp] theorem postFault_dp (c : FaultCause) (e : Option EntryIx) (s : State) : (postFault c e s).dp = s.dp := by
  simp [postFault]
@[simp] theorem postFault_rmu (c : FaultCause) (e : Option EntryIx) (s : State) : (postFault c e s).rmu = s.rmu := by
  simp [postFault]
@[simp] theorem postFault_hs (c : FaultCause) (e : Option EntryIx) (s : State) : (postFault c e s).hs = s.hs := by
  simp [postFault]
@[simp] theorem postFault_gw (c : FaultCause) (e : Option EntryIx) (s : State) : (postFault c e s).gw = s.gw := by
  simp [postFault]
@[simp] theorem postFault_ce (c : FaultCause) (e : Option EntryIx) (s : State) : (postFault c e s).ce = s.ce := by
  simp [postFault]
@[simp] theorem postFault_fu (c : FaultCause) (e : Option EntryIx) (s : State) : (postFault c e s).fu = s.fu := by
  simp [postFault]
@[simp] theorem postFault_mu (c : FaultCause) (e : Option EntryIx) (s : State) : (postFault c e s).mu = s.mu := by
  simp [postFault]
@[simp] theorem postFault_clu (c : FaultCause) (e : Option EntryIx) (s : State) : (postFault c e s).clu = s.clu := by
  simp [postFault]
@[simp] theorem postFault_pending (c : FaultCause) (e : Option EntryIx) (s : State) : (postFault c e s).pending = s.pending := by
  simp [postFault]
@[simp] theorem postFault_freeUsed (c : FaultCause) (e : Option EntryIx) (s : State) : (postFault c e s).freeUsed = s.freeUsed := by
  simp [postFault]
@[simp] theorem returnUpHeader_powered (n : Nat) (s : State) : (returnUpHeader n s).powered = s.powered := by
  unfold returnUpHeader; split <;> simp
@[simp] theorem returnUpHeader_dp (n : Nat) (s : State) : (returnUpHeader n s).dp = s.dp := by
  unfold returnUpHeader; split <;> simp
@[simp] theorem returnUpHeader_rmu (n : Nat) (s : State) : (returnUpHeader n s).rmu = s.rmu := by
  unfold returnUpHeader; split <;> simp
@[simp] theorem returnUpHeader_hs (n : Nat) (s : State) : (returnUpHeader n s).hs = s.hs := by
  unfold returnUpHeader; split <;> simp
@[simp] theorem returnUpHeader_gw (n : Nat) (s : State) : (returnUpHeader n s).gw = s.gw := by
  unfold returnUpHeader; split <;> simp
@[simp] theorem returnUpHeader_ce (n : Nat) (s : State) : (returnUpHeader n s).ce = s.ce := by
  unfold returnUpHeader; split <;> simp
@[simp] theorem returnUpHeader_fu (n : Nat) (s : State) : (returnUpHeader n s).fu = s.fu := by
  unfold returnUpHeader; split <;> simp
@[simp] theorem returnUpHeader_mu (n : Nat) (s : State) : (returnUpHeader n s).mu = s.mu := by
  unfold returnUpHeader; split <;> simp
@[simp] theorem returnUpHeader_clu (n : Nat) (s : State) : (returnUpHeader n s).clu = s.clu := by
  unfold returnUpHeader; split <;> simp
@[simp] theorem returnUpHeader_mp (n : Nat) (s : State) : (returnUpHeader n s).mp = s.mp := by
  unfold returnUpHeader; split <;> simp
@[simp] theorem returnUpHeader_pending (n : Nat) (s : State) : (returnUpHeader n s).pending = s.pending := by
  unfold returnUpHeader; split <;> simp
@[simp] theorem returnUpHeader_freeUsed (n : Nat) (s : State) : (returnUpHeader n s).freeUsed = s.freeUsed := by
  unfold returnUpHeader; split <;> simp
@[simp] theorem returnUpData_powered (n : Nat) (s : State) : (returnUpData n s).powered = s.powered := by
  unfold returnUpData; split <;> simp
@[simp] theorem returnUpData_dp (n : Nat) (s : State) : (returnUpData n s).dp = s.dp := by
  unfold returnUpData; split <;> simp
@[simp] theorem returnUpData_rmu (n : Nat) (s : State) : (returnUpData n s).rmu = s.rmu := by
  unfold returnUpData; split <;> simp
@[simp] theorem returnUpData_hs (n : Nat) (s : State) : (returnUpData n s).hs = s.hs := by
  unfold returnUpData; split <;> simp
@[simp] theorem returnUpData_gw (n : Nat) (s : State) : (returnUpData n s).gw = s.gw := by
  unfold returnUpData; split <;> simp
@[simp] theorem returnUpData_ce (n : Nat) (s : State) : (returnUpData n s).ce = s.ce := by
  unfold returnUpData; split <;> simp
@[simp] theorem returnUpData_fu (n : Nat) (s : State) : (returnUpData n s).fu = s.fu := by
  unfold returnUpData; split <;> simp
@[simp] theorem returnUpData_mu (n : Nat) (s : State) : (returnUpData n s).mu = s.mu := by
  unfold returnUpData; split <;> simp
@[simp] theorem returnUpData_clu (n : Nat) (s : State) : (returnUpData n s).clu = s.clu := by
  unfold returnUpData; split <;> simp
@[simp] theorem returnUpData_mp (n : Nat) (s : State) : (returnUpData n s).mp = s.mp := by
  unfold returnUpData; split <;> simp
@[simp] theorem returnUpData_pending (n : Nat) (s : State) : (returnUpData n s).pending = s.pending := by
  unfold returnUpData; split <;> simp
@[simp] theorem returnUpData_freeUsed (n : Nat) (s : State) : (returnUpData n s).freeUsed = s.freeUsed := by
  unfold returnUpData; split <;> simp
@[simp] theorem returnDown_powered (n m : Nat) (s : State) : (returnDown n m s).powered = s.powered := by
  unfold returnDown; split <;> simp
@[simp] theorem returnDown_up (n m : Nat) (s : State) : (returnDown n m s).up = s.up := by
  unfold returnDown; split <;> simp
@[simp] theorem returnDown_rmu (n m : Nat) (s : State) : (returnDown n m s).rmu = s.rmu := by
  unfold returnDown; split <;> simp
@[simp] theorem returnDown_hs (n m : Nat) (s : State) : (returnDown n m s).hs = s.hs := by
  unfold returnDown; split <;> simp
@[simp] theorem returnDown_gw (n m : Nat) (s : State) : (returnDown n m s).gw = s.gw := by
  unfold returnDown; split <;> simp
@[simp] theorem returnDown_ce (n m : Nat) (s : State) : (returnDown n m s).ce = s.ce := by
  unfold returnDown; split <;> simp
@[simp] theorem returnDown_fu (n m : Nat) (s : State) : (returnDown n m s).fu = s.fu := by
  unfold returnDown; split <;> simp
@[simp] theorem returnDown_mu (n m : Nat) (s : State) : (returnDown n m s).mu = s.mu := by
  unfold returnDown; split <;> simp
@[simp] theorem returnDown_clu (n m : Nat) (s : State) : (returnDown n m s).clu = s.clu := by
  unfold returnDown; split <;> simp
@[simp] theorem returnDown_mp (n m : Nat) (s : State) : (returnDown n m s).mp = s.mp := by
  unfold returnDown; split <;> simp
@[simp] theorem returnDown_pending (n m : Nat) (s : State) : (returnDown n m s).pending = s.pending := by
  unfold returnDown; split <;> simp
@[simp] theorem returnDown_freeUsed (n m : Nat) (s : State) : (returnDown n m s).freeUsed = s.freeUsed := by
  unfold returnDown; split <;> simp
@[simp] theorem setEntry_powered (e : EntryIx) (f : EntryConfig → EntryConfig) (s : State) : (setEntry e f s).powered = s.powered :=
  rfl
@[simp] theorem setEntry_up (e : EntryIx) (f : EntryConfig → EntryConfig) (s : State) : (setEntry e f s).up = s.up :=
  rfl
@[simp] theorem setEntry_dp (e : EntryIx) (f : EntryConfig → EntryConfig) (s : State) : (setEntry e f s).dp = s.dp :=
  rfl
@[simp] theorem setEntry_hs (e : EntryIx) (f : EntryConfig → EntryConfig) (s : State) : (setEntry e f s).hs = s.hs :=
  rfl
@[simp] theorem setEntry_gw (e : EntryIx) (f : EntryConfig → EntryConfig) (s : State) : (setEntry e f s).gw = s.gw :=
  rfl
@[simp] theorem setEntry_ce (e : EntryIx) (f : EntryConfig → EntryConfig) (s : State) : (setEntry e f s).ce = s.ce :=
  rfl
@[simp] theorem setEntry_fu (e : EntryIx) (f : EntryConfig → EntryConfig) (s : State) : (setEntry e f s).fu = s.fu :=
  rfl
@[simp] theorem setEntry_mu (e : EntryIx) (f : EntryConfig → EntryConfig) (s : State) : (setEntry e f s).mu = s.mu :=
  rfl
@[simp] theorem setEntry_clu (e : EntryIx) (f : EntryConfig → EntryConfig) (s : State) : (setEntry e f s).clu = s.clu :=
  rfl
@[simp] theorem setEntry_mp (e : EntryIx) (f : EntryConfig → EntryConfig) (s : State) : (setEntry e f s).mp = s.mp :=
  rfl
@[simp] theorem setEntry_pending (e : EntryIx) (f : EntryConfig → EntryConfig) (s : State) : (setEntry e f s).pending = s.pending :=
  rfl
@[simp] theorem setEntry_freeUsed (e : EntryIx) (f : EntryConfig → EntryConfig) (s : State) : (setEntry e f s).freeUsed = s.freeUsed :=
  rfl
@[simp] theorem setMeter_powered (e : EntryIx) (f : MeterEntry → MeterEntry) (s : State) : (setMeter e f s).powered = s.powered :=
  rfl
@[simp] theorem setMeter_up (e : EntryIx) (f : MeterEntry → MeterEntry) (s : State) : (setMeter e f s).up = s.up :=
  rfl
@[simp] theorem setMeter_dp (e : EntryIx) (f : MeterEntry → MeterEntry) (s : State) : (setMeter e f s).dp = s.dp :=
  rfl
@[simp] theorem setMeter_rmu (e : EntryIx) (f : MeterEntry → MeterEntry) (s : State) : (setMeter e f s).rmu = s.rmu :=
  rfl
@[simp] theorem setMeter_hs (e : EntryIx) (f : MeterEntry → MeterEntry) (s : State) : (setMeter e f s).hs = s.hs :=
  rfl
@[simp] theorem setMeter_gw (e : EntryIx) (f : MeterEntry → MeterEntry) (s : State) : (setMeter e f s).gw = s.gw :=
  rfl
@[simp] theorem setMeter_ce (e : EntryIx) (f : MeterEntry → MeterEntry) (s : State) : (setMeter e f s).ce = s.ce :=
  rfl
@[simp] theorem setMeter_fu (e : EntryIx) (f : MeterEntry → MeterEntry) (s : State) : (setMeter e f s).fu = s.fu :=
  rfl
@[simp] theorem setMeter_clu (e : EntryIx) (f : MeterEntry → MeterEntry) (s : State) : (setMeter e f s).clu = s.clu :=
  rfl
@[simp] theorem setMeter_mp (e : EntryIx) (f : MeterEntry → MeterEntry) (s : State) : (setMeter e f s).mp = s.mp :=
  rfl
@[simp] theorem setMeter_pending (e : EntryIx) (f : MeterEntry → MeterEntry) (s : State) : (setMeter e f s).pending = s.pending :=
  rfl
@[simp] theorem setMeter_freeUsed (e : EntryIx) (f : MeterEntry → MeterEntry) (s : State) : (setMeter e f s).freeUsed = s.freeUsed :=
  rfl
@[simp] theorem setBalance_powered (e : EntryIx) (b : Int) (s : State) : (setBalance e b s).powered = s.powered := rfl
@[simp] theorem setBalance_up (e : EntryIx) (b : Int) (s : State) : (setBalance e b s).up = s.up := rfl
@[simp] theorem setBalance_dp (e : EntryIx) (b : Int) (s : State) : (setBalance e b s).dp = s.dp := rfl
@[simp] theorem setBalance_rmu (e : EntryIx) (b : Int) (s : State) : (setBalance e b s).rmu = s.rmu := rfl
@[simp] theorem setBalance_hs (e : EntryIx) (b : Int) (s : State) : (setBalance e b s).hs = s.hs := rfl
@[simp] theorem setBalance_gw (e : EntryIx) (b : Int) (s : State) : (setBalance e b s).gw = s.gw := rfl
@[simp] theorem setBalance_fu (e : EntryIx) (b : Int) (s : State) : (setBalance e b s).fu = s.fu := rfl
@[simp] theorem setBalance_mu (e : EntryIx) (b : Int) (s : State) : (setBalance e b s).mu = s.mu := rfl
@[simp] theorem setBalance_clu (e : EntryIx) (b : Int) (s : State) : (setBalance e b s).clu = s.clu := rfl
@[simp] theorem setBalance_mp (e : EntryIx) (b : Int) (s : State) : (setBalance e b s).mp = s.mp := rfl
@[simp] theorem setBalance_pending (e : EntryIx) (b : Int) (s : State) : (setBalance e b s).pending = s.pending := rfl
@[simp] theorem setBalance_freeUsed (e : EntryIx) (b : Int) (s : State) : (setBalance e b s).freeUsed = s.freeUsed :=
  rfl
@[simp] theorem setCounters_powered (e : EntryIx) (f : Counters → Counters) (s : State) : (setCounters e f s).powered = s.powered :=
  rfl
@[simp] theorem setCounters_up (e : EntryIx) (f : Counters → Counters) (s : State) : (setCounters e f s).up = s.up :=
  rfl
@[simp] theorem setCounters_dp (e : EntryIx) (f : Counters → Counters) (s : State) : (setCounters e f s).dp = s.dp :=
  rfl
@[simp] theorem setCounters_rmu (e : EntryIx) (f : Counters → Counters) (s : State) : (setCounters e f s).rmu = s.rmu :=
  rfl
@[simp] theorem setCounters_hs (e : EntryIx) (f : Counters → Counters) (s : State) : (setCounters e f s).hs = s.hs :=
  rfl
@[simp] theorem setCounters_gw (e : EntryIx) (f : Counters → Counters) (s : State) : (setCounters e f s).gw = s.gw :=
  rfl
@[simp] theorem setCounters_ce (e : EntryIx) (f : Counters → Counters) (s : State) : (setCounters e f s).ce = s.ce :=
  rfl
@[simp] theorem setCounters_mu (e : EntryIx) (f : Counters → Counters) (s : State) : (setCounters e f s).mu = s.mu :=
  rfl
@[simp] theorem setCounters_clu (e : EntryIx) (f : Counters → Counters) (s : State) : (setCounters e f s).clu = s.clu :=
  rfl
@[simp] theorem setCounters_mp (e : EntryIx) (f : Counters → Counters) (s : State) : (setCounters e f s).mp = s.mp :=
  rfl
@[simp] theorem setCounters_pending (e : EntryIx) (f : Counters → Counters) (s : State) : (setCounters e f s).pending = s.pending :=
  rfl
@[simp] theorem setCounters_freeUsed (e : EntryIx) (f : Counters → Counters) (s : State) : (setCounters e f s).freeUsed = s.freeUsed :=
  rfl
@[simp] theorem countReleased_powered (e : EntryIx) (n : Nat) (s : State) : (countReleased e n s).powered = s.powered :=
  rfl
@[simp] theorem countReleased_up (e : EntryIx) (n : Nat) (s : State) : (countReleased e n s).up = s.up := rfl
@[simp] theorem countReleased_dp (e : EntryIx) (n : Nat) (s : State) : (countReleased e n s).dp = s.dp := rfl
@[simp] theorem countReleased_rmu (e : EntryIx) (n : Nat) (s : State) : (countReleased e n s).rmu = s.rmu := rfl
@[simp] theorem countReleased_hs (e : EntryIx) (n : Nat) (s : State) : (countReleased e n s).hs = s.hs := rfl
@[simp] theorem countReleased_gw (e : EntryIx) (n : Nat) (s : State) : (countReleased e n s).gw = s.gw := rfl
@[simp] theorem countReleased_ce (e : EntryIx) (n : Nat) (s : State) : (countReleased e n s).ce = s.ce := rfl
@[simp] theorem countReleased_mu (e : EntryIx) (n : Nat) (s : State) : (countReleased e n s).mu = s.mu := rfl
@[simp] theorem countReleased_clu (e : EntryIx) (n : Nat) (s : State) : (countReleased e n s).clu = s.clu := rfl
@[simp] theorem countReleased_mp (e : EntryIx) (n : Nat) (s : State) : (countReleased e n s).mp = s.mp := rfl
@[simp] theorem countReleased_pending (e : EntryIx) (n : Nat) (s : State) : (countReleased e n s).pending = s.pending :=
  rfl
@[simp] theorem countReleased_freeUsed (e : EntryIx) (n : Nat) (s : State) : (countReleased e n s).freeUsed = s.freeUsed :=
  rfl
@[simp] theorem countDeferral_powered (e : EntryIx) (s : State) : (countDeferral e s).powered = s.powered := rfl
@[simp] theorem countDeferral_up (e : EntryIx) (s : State) : (countDeferral e s).up = s.up := rfl
@[simp] theorem countDeferral_dp (e : EntryIx) (s : State) : (countDeferral e s).dp = s.dp := rfl
@[simp] theorem countDeferral_rmu (e : EntryIx) (s : State) : (countDeferral e s).rmu = s.rmu := rfl
@[simp] theorem countDeferral_hs (e : EntryIx) (s : State) : (countDeferral e s).hs = s.hs := rfl
@[simp] theorem countDeferral_gw (e : EntryIx) (s : State) : (countDeferral e s).gw = s.gw := rfl
@[simp] theorem countDeferral_ce (e : EntryIx) (s : State) : (countDeferral e s).ce = s.ce := rfl
@[simp] theorem countDeferral_mu (e : EntryIx) (s : State) : (countDeferral e s).mu = s.mu := rfl
@[simp] theorem countDeferral_clu (e : EntryIx) (s : State) : (countDeferral e s).clu = s.clu := rfl
@[simp] theorem countDeferral_mp (e : EntryIx) (s : State) : (countDeferral e s).mp = s.mp := rfl
@[simp] theorem countDeferral_pending (e : EntryIx) (s : State) : (countDeferral e s).pending = s.pending := rfl
@[simp] theorem countDeferral_freeUsed (e : EntryIx) (s : State) : (countDeferral e s).freeUsed = s.freeUsed := rfl
@[simp] theorem countRefusal_powered (e : EntryIx) (s : State) : (countRefusal e s).powered = s.powered := rfl
@[simp] theorem countRefusal_up (e : EntryIx) (s : State) : (countRefusal e s).up = s.up := rfl
@[simp] theorem countRefusal_dp (e : EntryIx) (s : State) : (countRefusal e s).dp = s.dp := rfl
@[simp] theorem countRefusal_rmu (e : EntryIx) (s : State) : (countRefusal e s).rmu = s.rmu := rfl
@[simp] theorem countRefusal_hs (e : EntryIx) (s : State) : (countRefusal e s).hs = s.hs := rfl
@[simp] theorem countRefusal_gw (e : EntryIx) (s : State) : (countRefusal e s).gw = s.gw := rfl
@[simp] theorem countRefusal_ce (e : EntryIx) (s : State) : (countRefusal e s).ce = s.ce := rfl
@[simp] theorem countRefusal_mu (e : EntryIx) (s : State) : (countRefusal e s).mu = s.mu := rfl
@[simp] theorem countRefusal_clu (e : EntryIx) (s : State) : (countRefusal e s).clu = s.clu := rfl
@[simp] theorem countRefusal_mp (e : EntryIx) (s : State) : (countRefusal e s).mp = s.mp := rfl
@[simp] theorem countRefusal_pending (e : EntryIx) (s : State) : (countRefusal e s).pending = s.pending := rfl
@[simp] theorem countRefusal_freeUsed (e : EntryIx) (s : State) : (countRefusal e s).freeUsed = s.freeUsed := rfl
@[simp] theorem countTimeout_powered (e : EntryIx) (s : State) : (countTimeout e s).powered = s.powered := rfl
@[simp] theorem countTimeout_up (e : EntryIx) (s : State) : (countTimeout e s).up = s.up := rfl
@[simp] theorem countTimeout_dp (e : EntryIx) (s : State) : (countTimeout e s).dp = s.dp := rfl
@[simp] theorem countTimeout_rmu (e : EntryIx) (s : State) : (countTimeout e s).rmu = s.rmu := rfl
@[simp] theorem countTimeout_hs (e : EntryIx) (s : State) : (countTimeout e s).hs = s.hs := rfl
@[simp] theorem countTimeout_gw (e : EntryIx) (s : State) : (countTimeout e s).gw = s.gw := rfl
@[simp] theorem countTimeout_ce (e : EntryIx) (s : State) : (countTimeout e s).ce = s.ce := rfl
@[simp] theorem countTimeout_mu (e : EntryIx) (s : State) : (countTimeout e s).mu = s.mu := rfl
@[simp] theorem countTimeout_clu (e : EntryIx) (s : State) : (countTimeout e s).clu = s.clu := rfl
@[simp] theorem countTimeout_mp (e : EntryIx) (s : State) : (countTimeout e s).mp = s.mp := rfl
@[simp] theorem countTimeout_pending (e : EntryIx) (s : State) : (countTimeout e s).pending = s.pending := rfl
@[simp] theorem countTimeout_freeUsed (e : EntryIx) (s : State) : (countTimeout e s).freeUsed = s.freeUsed := rfl
@[simp] theorem setLane_powered (l : LaneName) (f : Lane → Lane) (s : State) : (setLane l f s).powered = s.powered :=
  rfl
@[simp] theorem setLane_up (l : LaneName) (f : Lane → Lane) (s : State) : (setLane l f s).up = s.up := rfl
@[simp] theorem setLane_dp (l : LaneName) (f : Lane → Lane) (s : State) : (setLane l f s).dp = s.dp := rfl
@[simp] theorem setLane_rmu (l : LaneName) (f : Lane → Lane) (s : State) : (setLane l f s).rmu = s.rmu := rfl
@[simp] theorem setLane_hs (l : LaneName) (f : Lane → Lane) (s : State) : (setLane l f s).hs = s.hs := rfl
@[simp] theorem setLane_ce (l : LaneName) (f : Lane → Lane) (s : State) : (setLane l f s).ce = s.ce := rfl
@[simp] theorem setLane_fu (l : LaneName) (f : Lane → Lane) (s : State) : (setLane l f s).fu = s.fu := rfl
@[simp] theorem setLane_mu (l : LaneName) (f : Lane → Lane) (s : State) : (setLane l f s).mu = s.mu := rfl
@[simp] theorem setLane_clu (l : LaneName) (f : Lane → Lane) (s : State) : (setLane l f s).clu = s.clu := rfl
@[simp] theorem setLane_mp (l : LaneName) (f : Lane → Lane) (s : State) : (setLane l f s).mp = s.mp := rfl
@[simp] theorem setLane_pending (l : LaneName) (f : Lane → Lane) (s : State) : (setLane l f s).pending = s.pending :=
  rfl
@[simp] theorem setLane_freeUsed (l : LaneName) (f : Lane → Lane) (s : State) : (setLane l f s).freeUsed = s.freeUsed :=
  rfl
@[simp] theorem beginRound_powered (l : LaneName) (s : State) : (beginRound l s).powered = s.powered := rfl
@[simp] theorem beginRound_up (l : LaneName) (s : State) : (beginRound l s).up = s.up := rfl
@[simp] theorem beginRound_dp (l : LaneName) (s : State) : (beginRound l s).dp = s.dp := rfl
@[simp] theorem beginRound_rmu (l : LaneName) (s : State) : (beginRound l s).rmu = s.rmu := rfl
@[simp] theorem beginRound_hs (l : LaneName) (s : State) : (beginRound l s).hs = s.hs := rfl
@[simp] theorem beginRound_ce (l : LaneName) (s : State) : (beginRound l s).ce = s.ce := rfl
@[simp] theorem beginRound_fu (l : LaneName) (s : State) : (beginRound l s).fu = s.fu := rfl
@[simp] theorem beginRound_mu (l : LaneName) (s : State) : (beginRound l s).mu = s.mu := rfl
@[simp] theorem beginRound_clu (l : LaneName) (s : State) : (beginRound l s).clu = s.clu := rfl
@[simp] theorem beginRound_mp (l : LaneName) (s : State) : (beginRound l s).mp = s.mp := rfl
@[simp] theorem beginRound_pending (l : LaneName) (s : State) : (beginRound l s).pending = s.pending := rfl
@[simp] theorem beginRound_freeUsed (l : LaneName) (s : State) : (beginRound l s).freeUsed = s.freeUsed := rfl
@[simp] theorem restLane_powered (l : LaneName) (s : State) : (restLane l s).powered = s.powered := rfl
@[simp] theorem restLane_up (l : LaneName) (s : State) : (restLane l s).up = s.up := rfl
@[simp] theorem restLane_dp (l : LaneName) (s : State) : (restLane l s).dp = s.dp := rfl
@[simp] theorem restLane_rmu (l : LaneName) (s : State) : (restLane l s).rmu = s.rmu := rfl
@[simp] theorem restLane_hs (l : LaneName) (s : State) : (restLane l s).hs = s.hs := rfl
@[simp] theorem restLane_ce (l : LaneName) (s : State) : (restLane l s).ce = s.ce := rfl
@[simp] theorem restLane_fu (l : LaneName) (s : State) : (restLane l s).fu = s.fu := rfl
@[simp] theorem restLane_mu (l : LaneName) (s : State) : (restLane l s).mu = s.mu := rfl
@[simp] theorem restLane_clu (l : LaneName) (s : State) : (restLane l s).clu = s.clu := rfl
@[simp] theorem restLane_mp (l : LaneName) (s : State) : (restLane l s).mp = s.mp := rfl
@[simp] theorem restLane_pending (l : LaneName) (s : State) : (restLane l s).pending = s.pending := rfl
@[simp] theorem restLane_freeUsed (l : LaneName) (s : State) : (restLane l s).freeUsed = s.freeUsed := rfl
@[simp] theorem holdLane_powered (l : LaneName) (s : State) : (holdLane l s).powered = s.powered := rfl
@[simp] theorem holdLane_up (l : LaneName) (s : State) : (holdLane l s).up = s.up := rfl
@[simp] theorem holdLane_dp (l : LaneName) (s : State) : (holdLane l s).dp = s.dp := rfl
@[simp] theorem holdLane_rmu (l : LaneName) (s : State) : (holdLane l s).rmu = s.rmu := rfl
@[simp] theorem holdLane_hs (l : LaneName) (s : State) : (holdLane l s).hs = s.hs := rfl
@[simp] theorem holdLane_ce (l : LaneName) (s : State) : (holdLane l s).ce = s.ce := rfl
@[simp] theorem holdLane_fu (l : LaneName) (s : State) : (holdLane l s).fu = s.fu := rfl
@[simp] theorem holdLane_mu (l : LaneName) (s : State) : (holdLane l s).mu = s.mu := rfl
@[simp] theorem holdLane_clu (l : LaneName) (s : State) : (holdLane l s).clu = s.clu := rfl
@[simp] theorem holdLane_mp (l : LaneName) (s : State) : (holdLane l s).mp = s.mp := rfl
@[simp] theorem holdLane_pending (l : LaneName) (s : State) : (holdLane l s).pending = s.pending := rfl
@[simp] theorem holdLane_freeUsed (l : LaneName) (s : State) : (holdLane l s).freeUsed = s.freeUsed := rfl
@[simp] theorem stopLane_powered (l : LaneName) (s : State) : (stopLane l s).powered = s.powered := rfl
@[simp] theorem stopLane_up (l : LaneName) (s : State) : (stopLane l s).up = s.up := rfl
@[simp] theorem stopLane_dp (l : LaneName) (s : State) : (stopLane l s).dp = s.dp := rfl
@[simp] theorem stopLane_rmu (l : LaneName) (s : State) : (stopLane l s).rmu = s.rmu := rfl
@[simp] theorem stopLane_hs (l : LaneName) (s : State) : (stopLane l s).hs = s.hs := rfl
@[simp] theorem stopLane_ce (l : LaneName) (s : State) : (stopLane l s).ce = s.ce := rfl
@[simp] theorem stopLane_fu (l : LaneName) (s : State) : (stopLane l s).fu = s.fu := rfl
@[simp] theorem stopLane_mu (l : LaneName) (s : State) : (stopLane l s).mu = s.mu := rfl
@[simp] theorem stopLane_clu (l : LaneName) (s : State) : (stopLane l s).clu = s.clu := rfl
@[simp] theorem stopLane_mp (l : LaneName) (s : State) : (stopLane l s).mp = s.mp := rfl
@[simp] theorem stopLane_pending (l : LaneName) (s : State) : (stopLane l s).pending = s.pending := rfl
@[simp] theorem stopLane_freeUsed (l : LaneName) (s : State) : (stopLane l s).freeUsed = s.freeUsed := rfl
@[simp] theorem startLane_powered (l : LaneName) (s : State) : (startLane l s).powered = s.powered := by
  unfold startLane; (repeat' split) <;> simp
@[simp] theorem startLane_up (l : LaneName) (s : State) : (startLane l s).up = s.up := by
  unfold startLane; (repeat' split) <;> simp
@[simp] theorem startLane_dp (l : LaneName) (s : State) : (startLane l s).dp = s.dp := by
  unfold startLane; (repeat' split) <;> simp
@[simp] theorem startLane_rmu (l : LaneName) (s : State) : (startLane l s).rmu = s.rmu := by
  unfold startLane; (repeat' split) <;> simp
@[simp] theorem startLane_hs (l : LaneName) (s : State) : (startLane l s).hs = s.hs := by
  unfold startLane; (repeat' split) <;> simp
@[simp] theorem startLane_ce (l : LaneName) (s : State) : (startLane l s).ce = s.ce := by
  unfold startLane; (repeat' split) <;> simp
@[simp] theorem startLane_fu (l : LaneName) (s : State) : (startLane l s).fu = s.fu := by
  unfold startLane; (repeat' split) <;> simp
@[simp] theorem startLane_mu (l : LaneName) (s : State) : (startLane l s).mu = s.mu := by
  unfold startLane; (repeat' split) <;> simp
@[simp] theorem startLane_clu (l : LaneName) (s : State) : (startLane l s).clu = s.clu := by
  unfold startLane; (repeat' split) <;> simp
@[simp] theorem startLane_mp (l : LaneName) (s : State) : (startLane l s).mp = s.mp := by
  unfold startLane; (repeat' split) <;> simp
@[simp] theorem startLane_pending (l : LaneName) (s : State) : (startLane l s).pending = s.pending := by
  unfold startLane; (repeat' split) <;> simp
@[simp] theorem startLane_freeUsed (l : LaneName) (s : State) : (startLane l s).freeUsed = s.freeUsed := by
  unfold startLane; (repeat' split) <;> simp
@[simp] theorem settleLane_powered (l : LaneName) (s : State) : (settleLane l s).powered = s.powered := by
  unfold settleLane; (repeat' split) <;> simp
@[simp] theorem settleLane_up (l : LaneName) (s : State) : (settleLane l s).up = s.up := by
  unfold settleLane; (repeat' split) <;> simp
@[simp] theorem settleLane_dp (l : LaneName) (s : State) : (settleLane l s).dp = s.dp := by
  unfold settleLane; (repeat' split) <;> simp
@[simp] theorem settleLane_rmu (l : LaneName) (s : State) : (settleLane l s).rmu = s.rmu := by
  unfold settleLane; (repeat' split) <;> simp
@[simp] theorem settleLane_hs (l : LaneName) (s : State) : (settleLane l s).hs = s.hs := by
  unfold settleLane; (repeat' split) <;> simp
@[simp] theorem settleLane_ce (l : LaneName) (s : State) : (settleLane l s).ce = s.ce := by
  unfold settleLane; (repeat' split) <;> simp
@[simp] theorem settleLane_fu (l : LaneName) (s : State) : (settleLane l s).fu = s.fu := by
  unfold settleLane; (repeat' split) <;> simp
@[simp] theorem settleLane_mu (l : LaneName) (s : State) : (settleLane l s).mu = s.mu := by
  unfold settleLane; (repeat' split) <;> simp
@[simp] theorem settleLane_clu (l : LaneName) (s : State) : (settleLane l s).clu = s.clu := by
  unfold settleLane; (repeat' split) <;> simp
@[simp] theorem settleLane_mp (l : LaneName) (s : State) : (settleLane l s).mp = s.mp := by
  unfold settleLane; (repeat' split) <;> simp
@[simp] theorem settleLane_pending (l : LaneName) (s : State) : (settleLane l s).pending = s.pending := by
  unfold settleLane; (repeat' split) <;> simp
@[simp] theorem settleLane_freeUsed (l : LaneName) (s : State) : (settleLane l s).freeUsed = s.freeUsed := by
  unfold settleLane; (repeat' split) <;> simp
@[simp] theorem changeover_powered (s : State) : (changeover s).powered = s.powered := by simp [changeover]
@[simp] theorem changeover_up (s : State) : (changeover s).up = s.up := by simp [changeover]
@[simp] theorem changeover_dp (s : State) : (changeover s).dp = s.dp := by simp [changeover]
@[simp] theorem changeover_rmu (s : State) : (changeover s).rmu = s.rmu := by simp [changeover]
@[simp] theorem changeover_hs (s : State) : (changeover s).hs = s.hs := by simp [changeover]
@[simp] theorem changeover_ce (s : State) : (changeover s).ce = s.ce := by simp [changeover]
@[simp] theorem changeover_fu (s : State) : (changeover s).fu = s.fu := by simp [changeover]
@[simp] theorem changeover_mu (s : State) : (changeover s).mu = s.mu := by simp [changeover]
@[simp] theorem changeover_clu (s : State) : (changeover s).clu = s.clu := by simp [changeover]
@[simp] theorem changeover_mp (s : State) : (changeover s).mp = s.mp := by simp [changeover]
@[simp] theorem changeover_pending (s : State) : (changeover s).pending = s.pending := by simp [changeover]
@[simp] theorem changeover_freeUsed (s : State) : (changeover s).freeUsed = s.freeUsed := by simp [changeover]
@[simp] theorem changeoverIfDue_powered (s : State) : (changeoverIfDue s).powered = s.powered := by
  unfold changeoverIfDue; split <;> simp
@[simp] theorem changeoverIfDue_up (s : State) : (changeoverIfDue s).up = s.up := by
  unfold changeoverIfDue; split <;> simp
@[simp] theorem changeoverIfDue_dp (s : State) : (changeoverIfDue s).dp = s.dp := by
  unfold changeoverIfDue; split <;> simp
@[simp] theorem changeoverIfDue_rmu (s : State) : (changeoverIfDue s).rmu = s.rmu := by
  unfold changeoverIfDue; split <;> simp
@[simp] theorem changeoverIfDue_hs (s : State) : (changeoverIfDue s).hs = s.hs := by
  unfold changeoverIfDue; split <;> simp
@[simp] theorem changeoverIfDue_ce (s : State) : (changeoverIfDue s).ce = s.ce := by
  unfold changeoverIfDue; split <;> simp
@[simp] theorem changeoverIfDue_fu (s : State) : (changeoverIfDue s).fu = s.fu := by
  unfold changeoverIfDue; split <;> simp
@[simp] theorem changeoverIfDue_mu (s : State) : (changeoverIfDue s).mu = s.mu := by
  unfold changeoverIfDue; split <;> simp
@[simp] theorem changeoverIfDue_clu (s : State) : (changeoverIfDue s).clu = s.clu := by
  unfold changeoverIfDue; split <;> simp
@[simp] theorem changeoverIfDue_mp (s : State) : (changeoverIfDue s).mp = s.mp := by
  unfold changeoverIfDue; split <;> simp
@[simp] theorem changeoverIfDue_pending (s : State) : (changeoverIfDue s).pending = s.pending := by
  unfold changeoverIfDue; split <;> simp
@[simp] theorem changeoverIfDue_freeUsed (s : State) : (changeoverIfDue s).freeUsed = s.freeUsed := by
  unfold changeoverIfDue; split <;> simp
@[simp] theorem endRound_powered (ls : List LaneName) (s : State) : (endRound ls s).powered = s.powered := by
  have r := fun t => foldl_keeps (fun x : State => x.powered) (fun t l => restLane l t) (fun _ _ => by simp) ls t
  have b := fun t => foldl_keeps (fun x : State => x.powered) (fun t l => beginRound l t) (fun _ _ => by simp) ls t
  have w := fun t => foldl_keeps (fun x : State => x.powered) (fun t l => holdLane l t) (fun _ _ => by simp) ls t
  unfold endRound; dsimp only at r b w ⊢; (repeat' split) <;> simp [r, b, w]
@[simp] theorem endRound_up (ls : List LaneName) (s : State) : (endRound ls s).up = s.up := by
  have r := fun t => foldl_keeps (fun x : State => x.up) (fun t l => restLane l t) (fun _ _ => by simp) ls t
  have b := fun t => foldl_keeps (fun x : State => x.up) (fun t l => beginRound l t) (fun _ _ => by simp) ls t
  have w := fun t => foldl_keeps (fun x : State => x.up) (fun t l => holdLane l t) (fun _ _ => by simp) ls t
  unfold endRound; dsimp only at r b w ⊢; (repeat' split) <;> simp [r, b, w]
@[simp] theorem endRound_dp (ls : List LaneName) (s : State) : (endRound ls s).dp = s.dp := by
  have r := fun t => foldl_keeps (fun x : State => x.dp) (fun t l => restLane l t) (fun _ _ => by simp) ls t
  have b := fun t => foldl_keeps (fun x : State => x.dp) (fun t l => beginRound l t) (fun _ _ => by simp) ls t
  have w := fun t => foldl_keeps (fun x : State => x.dp) (fun t l => holdLane l t) (fun _ _ => by simp) ls t
  unfold endRound; dsimp only at r b w ⊢; (repeat' split) <;> simp [r, b, w]
@[simp] theorem endRound_rmu (ls : List LaneName) (s : State) : (endRound ls s).rmu = s.rmu := by
  have r := fun t => foldl_keeps (fun x : State => x.rmu) (fun t l => restLane l t) (fun _ _ => by simp) ls t
  have b := fun t => foldl_keeps (fun x : State => x.rmu) (fun t l => beginRound l t) (fun _ _ => by simp) ls t
  have w := fun t => foldl_keeps (fun x : State => x.rmu) (fun t l => holdLane l t) (fun _ _ => by simp) ls t
  unfold endRound; dsimp only at r b w ⊢; (repeat' split) <;> simp [r, b, w]
@[simp] theorem endRound_hs (ls : List LaneName) (s : State) : (endRound ls s).hs = s.hs := by
  have r := fun t => foldl_keeps (fun x : State => x.hs) (fun t l => restLane l t) (fun _ _ => by simp) ls t
  have b := fun t => foldl_keeps (fun x : State => x.hs) (fun t l => beginRound l t) (fun _ _ => by simp) ls t
  have w := fun t => foldl_keeps (fun x : State => x.hs) (fun t l => holdLane l t) (fun _ _ => by simp) ls t
  unfold endRound; dsimp only at r b w ⊢; (repeat' split) <;> simp [r, b, w]
@[simp] theorem endRound_ce (ls : List LaneName) (s : State) : (endRound ls s).ce = s.ce := by
  have r := fun t => foldl_keeps (fun x : State => x.ce) (fun t l => restLane l t) (fun _ _ => by simp) ls t
  have b := fun t => foldl_keeps (fun x : State => x.ce) (fun t l => beginRound l t) (fun _ _ => by simp) ls t
  have w := fun t => foldl_keeps (fun x : State => x.ce) (fun t l => holdLane l t) (fun _ _ => by simp) ls t
  unfold endRound; dsimp only at r b w ⊢; (repeat' split) <;> simp [r, b, w]
@[simp] theorem endRound_fu (ls : List LaneName) (s : State) : (endRound ls s).fu = s.fu := by
  have r := fun t => foldl_keeps (fun x : State => x.fu) (fun t l => restLane l t) (fun _ _ => by simp) ls t
  have b := fun t => foldl_keeps (fun x : State => x.fu) (fun t l => beginRound l t) (fun _ _ => by simp) ls t
  have w := fun t => foldl_keeps (fun x : State => x.fu) (fun t l => holdLane l t) (fun _ _ => by simp) ls t
  unfold endRound; dsimp only at r b w ⊢; (repeat' split) <;> simp [r, b, w]
@[simp] theorem endRound_mu (ls : List LaneName) (s : State) : (endRound ls s).mu = s.mu := by
  have r := fun t => foldl_keeps (fun x : State => x.mu) (fun t l => restLane l t) (fun _ _ => by simp) ls t
  have b := fun t => foldl_keeps (fun x : State => x.mu) (fun t l => beginRound l t) (fun _ _ => by simp) ls t
  have w := fun t => foldl_keeps (fun x : State => x.mu) (fun t l => holdLane l t) (fun _ _ => by simp) ls t
  unfold endRound; dsimp only at r b w ⊢; (repeat' split) <;> simp [r, b, w]
@[simp] theorem endRound_clu (ls : List LaneName) (s : State) : (endRound ls s).clu = s.clu := by
  have r := fun t => foldl_keeps (fun x : State => x.clu) (fun t l => restLane l t) (fun _ _ => by simp) ls t
  have b := fun t => foldl_keeps (fun x : State => x.clu) (fun t l => beginRound l t) (fun _ _ => by simp) ls t
  have w := fun t => foldl_keeps (fun x : State => x.clu) (fun t l => holdLane l t) (fun _ _ => by simp) ls t
  unfold endRound; dsimp only at r b w ⊢; (repeat' split) <;> simp [r, b, w]
@[simp] theorem endRound_mp (ls : List LaneName) (s : State) : (endRound ls s).mp = s.mp := by
  have r := fun t => foldl_keeps (fun x : State => x.mp) (fun t l => restLane l t) (fun _ _ => by simp) ls t
  have b := fun t => foldl_keeps (fun x : State => x.mp) (fun t l => beginRound l t) (fun _ _ => by simp) ls t
  have w := fun t => foldl_keeps (fun x : State => x.mp) (fun t l => holdLane l t) (fun _ _ => by simp) ls t
  unfold endRound; dsimp only at r b w ⊢; (repeat' split) <;> simp [r, b, w]
@[simp] theorem endRound_pending (ls : List LaneName) (s : State) : (endRound ls s).pending = s.pending := by
  have r := fun t => foldl_keeps (fun x : State => x.pending) (fun t l => restLane l t) (fun _ _ => by simp) ls t
  have b := fun t => foldl_keeps (fun x : State => x.pending) (fun t l => beginRound l t) (fun _ _ => by simp) ls t
  have w := fun t => foldl_keeps (fun x : State => x.pending) (fun t l => holdLane l t) (fun _ _ => by simp) ls t
  unfold endRound; dsimp only at r b w ⊢; (repeat' split) <;> simp [r, b, w]
@[simp] theorem endRound_freeUsed (ls : List LaneName) (s : State) : (endRound ls s).freeUsed = s.freeUsed := by
  have r := fun t => foldl_keeps (fun x : State => x.freeUsed) (fun t l => restLane l t) (fun _ _ => by simp) ls t
  have b := fun t => foldl_keeps (fun x : State => x.freeUsed) (fun t l => beginRound l t) (fun _ _ => by simp) ls t
  have w := fun t => foldl_keeps (fun x : State => x.freeUsed) (fun t l => holdLane l t) (fun _ _ => by simp) ls t
  unfold endRound; dsimp only at r b w ⊢; (repeat' split) <;> simp [r, b, w]
@[simp] theorem visitDone_powered (l : LaneName) (s : State) : (visitDone l s).powered = s.powered := by
  unfold visitDone; (repeat' split) <;> simp
@[simp] theorem visitDone_up (l : LaneName) (s : State) : (visitDone l s).up = s.up := by
  unfold visitDone; (repeat' split) <;> simp
@[simp] theorem visitDone_dp (l : LaneName) (s : State) : (visitDone l s).dp = s.dp := by
  unfold visitDone; (repeat' split) <;> simp
@[simp] theorem visitDone_rmu (l : LaneName) (s : State) : (visitDone l s).rmu = s.rmu := by
  unfold visitDone; (repeat' split) <;> simp
@[simp] theorem visitDone_hs (l : LaneName) (s : State) : (visitDone l s).hs = s.hs := by
  unfold visitDone; (repeat' split) <;> simp
@[simp] theorem visitDone_ce (l : LaneName) (s : State) : (visitDone l s).ce = s.ce := by
  unfold visitDone; (repeat' split) <;> simp
@[simp] theorem visitDone_fu (l : LaneName) (s : State) : (visitDone l s).fu = s.fu := by
  unfold visitDone; (repeat' split) <;> simp
@[simp] theorem visitDone_mu (l : LaneName) (s : State) : (visitDone l s).mu = s.mu := by
  unfold visitDone; (repeat' split) <;> simp
@[simp] theorem visitDone_clu (l : LaneName) (s : State) : (visitDone l s).clu = s.clu := by
  unfold visitDone; (repeat' split) <;> simp
@[simp] theorem visitDone_mp (l : LaneName) (s : State) : (visitDone l s).mp = s.mp := by
  unfold visitDone; (repeat' split) <;> simp
@[simp] theorem visitDone_pending (l : LaneName) (s : State) : (visitDone l s).pending = s.pending := by
  unfold visitDone; (repeat' split) <;> simp
@[simp] theorem visitDone_freeUsed (l : LaneName) (s : State) : (visitDone l s).freeUsed = s.freeUsed := by
  unfold visitDone; (repeat' split) <;> simp
@[simp] theorem arriveAt_powered (l : LaneName) (c : SvcClass) (s : State) : (arriveAt l c s).powered = s.powered :=
  rfl
@[simp] theorem arriveAt_up (l : LaneName) (c : SvcClass) (s : State) : (arriveAt l c s).up = s.up := rfl
@[simp] theorem arriveAt_dp (l : LaneName) (c : SvcClass) (s : State) : (arriveAt l c s).dp = s.dp := rfl
@[simp] theorem arriveAt_rmu (l : LaneName) (c : SvcClass) (s : State) : (arriveAt l c s).rmu = s.rmu := rfl
@[simp] theorem arriveAt_hs (l : LaneName) (c : SvcClass) (s : State) : (arriveAt l c s).hs = s.hs := rfl
@[simp] theorem arriveAt_ce (l : LaneName) (c : SvcClass) (s : State) : (arriveAt l c s).ce = s.ce := rfl
@[simp] theorem arriveAt_fu (l : LaneName) (c : SvcClass) (s : State) : (arriveAt l c s).fu = s.fu := rfl
@[simp] theorem arriveAt_mu (l : LaneName) (c : SvcClass) (s : State) : (arriveAt l c s).mu = s.mu := rfl
@[simp] theorem arriveAt_clu (l : LaneName) (c : SvcClass) (s : State) : (arriveAt l c s).clu = s.clu := rfl
@[simp] theorem arriveAt_mp (l : LaneName) (c : SvcClass) (s : State) : (arriveAt l c s).mp = s.mp := rfl
@[simp] theorem arriveAt_pending (l : LaneName) (c : SvcClass) (s : State) : (arriveAt l c s).pending = s.pending :=
  rfl
@[simp] theorem arriveAt_freeUsed (l : LaneName) (c : SvcClass) (s : State) : (arriveAt l c s).freeUsed = s.freeUsed :=
  rfl
@[simp] theorem arriveBoth_powered (s : State) : (arriveBoth s).powered = s.powered := rfl
@[simp] theorem arriveBoth_up (s : State) : (arriveBoth s).up = s.up := rfl
@[simp] theorem arriveBoth_dp (s : State) : (arriveBoth s).dp = s.dp := rfl
@[simp] theorem arriveBoth_rmu (s : State) : (arriveBoth s).rmu = s.rmu := rfl
@[simp] theorem arriveBoth_hs (s : State) : (arriveBoth s).hs = s.hs := rfl
@[simp] theorem arriveBoth_ce (s : State) : (arriveBoth s).ce = s.ce := rfl
@[simp] theorem arriveBoth_fu (s : State) : (arriveBoth s).fu = s.fu := rfl
@[simp] theorem arriveBoth_mu (s : State) : (arriveBoth s).mu = s.mu := rfl
@[simp] theorem arriveBoth_clu (s : State) : (arriveBoth s).clu = s.clu := rfl
@[simp] theorem arriveBoth_mp (s : State) : (arriveBoth s).mp = s.mp := rfl
@[simp] theorem arriveBoth_pending (s : State) : (arriveBoth s).pending = s.pending := rfl
@[simp] theorem arriveBoth_freeUsed (s : State) : (arriveBoth s).freeUsed = s.freeUsed := rfl
@[simp] theorem pairArrive_powered (s : State) : (pairArrive s).powered = s.powered := by
  unfold pairArrive; (repeat' split) <;> simp
@[simp] theorem pairArrive_up (s : State) : (pairArrive s).up = s.up := by
  unfold pairArrive; (repeat' split) <;> simp
@[simp] theorem pairArrive_dp (s : State) : (pairArrive s).dp = s.dp := by
  unfold pairArrive; (repeat' split) <;> simp
@[simp] theorem pairArrive_rmu (s : State) : (pairArrive s).rmu = s.rmu := by
  unfold pairArrive; (repeat' split) <;> simp
@[simp] theorem pairArrive_hs (s : State) : (pairArrive s).hs = s.hs := by
  unfold pairArrive; (repeat' split) <;> simp
@[simp] theorem pairArrive_ce (s : State) : (pairArrive s).ce = s.ce := by
  unfold pairArrive; (repeat' split) <;> simp
@[simp] theorem pairArrive_fu (s : State) : (pairArrive s).fu = s.fu := by
  unfold pairArrive; (repeat' split) <;> simp
@[simp] theorem pairArrive_mu (s : State) : (pairArrive s).mu = s.mu := by
  unfold pairArrive; (repeat' split) <;> simp
@[simp] theorem pairArrive_clu (s : State) : (pairArrive s).clu = s.clu := by
  unfold pairArrive; (repeat' split) <;> simp
@[simp] theorem pairArrive_mp (s : State) : (pairArrive s).mp = s.mp := by
  unfold pairArrive; (repeat' split) <;> simp
@[simp] theorem pairArrive_pending (s : State) : (pairArrive s).pending = s.pending := by
  unfold pairArrive; (repeat' split) <;> simp
@[simp] theorem pairArrive_freeUsed (s : State) : (pairArrive s).freeUsed = s.freeUsed := by
  unfold pairArrive; (repeat' split) <;> simp
@[simp] theorem beginIdle_powered (s : State) : (beginIdle s).powered = s.powered := by
  unfold beginIdle; refine (foldl_keeps (fun x : State => x.powered) _ (fun _ _ => by simp) _ _).trans ?_; rfl
@[simp] theorem beginIdle_up (s : State) : (beginIdle s).up = s.up := by
  unfold beginIdle; refine (foldl_keeps (fun x : State => x.up) _ (fun _ _ => by simp) _ _).trans ?_; rfl
@[simp] theorem beginIdle_dp (s : State) : (beginIdle s).dp = s.dp := by
  unfold beginIdle; refine (foldl_keeps (fun x : State => x.dp) _ (fun _ _ => by simp) _ _).trans ?_; rfl
@[simp] theorem beginIdle_rmu (s : State) : (beginIdle s).rmu = s.rmu := by
  unfold beginIdle; refine (foldl_keeps (fun x : State => x.rmu) _ (fun _ _ => by simp) _ _).trans ?_; rfl
@[simp] theorem beginIdle_hs (s : State) : (beginIdle s).hs = s.hs := by
  unfold beginIdle; refine (foldl_keeps (fun x : State => x.hs) _ (fun _ _ => by simp) _ _).trans ?_; rfl
@[simp] theorem beginIdle_ce (s : State) : (beginIdle s).ce = s.ce := by
  unfold beginIdle; refine (foldl_keeps (fun x : State => x.ce) _ (fun _ _ => by simp) _ _).trans ?_; rfl
@[simp] theorem beginIdle_fu (s : State) : (beginIdle s).fu = s.fu := by
  unfold beginIdle; refine (foldl_keeps (fun x : State => x.fu) _ (fun _ _ => by simp) _ _).trans ?_; rfl
@[simp] theorem beginIdle_mu (s : State) : (beginIdle s).mu = s.mu := by
  unfold beginIdle; refine (foldl_keeps (fun x : State => x.mu) _ (fun _ _ => by simp) _ _).trans ?_; rfl
@[simp] theorem beginIdle_clu (s : State) : (beginIdle s).clu = s.clu := by
  unfold beginIdle; refine (foldl_keeps (fun x : State => x.clu) _ (fun _ _ => by simp) _ _).trans ?_; rfl
@[simp] theorem beginIdle_mp (s : State) : (beginIdle s).mp = s.mp := by
  unfold beginIdle; refine (foldl_keeps (fun x : State => x.mp) _ (fun _ _ => by simp) _ _).trans ?_; rfl
@[simp] theorem beginIdle_pending (s : State) : (beginIdle s).pending = s.pending := by
  unfold beginIdle; refine (foldl_keeps (fun x : State => x.pending) _ (fun _ _ => by simp) _ _).trans ?_; rfl
@[simp] theorem beginIdle_freeUsed (s : State) : (beginIdle s).freeUsed = s.freeUsed := by
  unfold beginIdle; refine (foldl_keeps (fun x : State => x.freeUsed) _ (fun _ _ => by simp) _ _).trans ?_; rfl
@[simp] theorem markWoken_powered (s : State) : (markWoken s).powered = s.powered := by
  unfold markWoken; refine (foldl_keeps (fun x : State => x.powered) _ (fun _ _ => by simp) _ _).trans ?_; rfl
@[simp] theorem markWoken_up (s : State) : (markWoken s).up = s.up := by
  unfold markWoken; refine (foldl_keeps (fun x : State => x.up) _ (fun _ _ => by simp) _ _).trans ?_; rfl
@[simp] theorem markWoken_dp (s : State) : (markWoken s).dp = s.dp := by
  unfold markWoken; refine (foldl_keeps (fun x : State => x.dp) _ (fun _ _ => by simp) _ _).trans ?_; rfl
@[simp] theorem markWoken_rmu (s : State) : (markWoken s).rmu = s.rmu := by
  unfold markWoken; refine (foldl_keeps (fun x : State => x.rmu) _ (fun _ _ => by simp) _ _).trans ?_; rfl
@[simp] theorem markWoken_hs (s : State) : (markWoken s).hs = s.hs := by
  unfold markWoken; refine (foldl_keeps (fun x : State => x.hs) _ (fun _ _ => by simp) _ _).trans ?_; rfl
@[simp] theorem markWoken_ce (s : State) : (markWoken s).ce = s.ce := by
  unfold markWoken; refine (foldl_keeps (fun x : State => x.ce) _ (fun _ _ => by simp) _ _).trans ?_; rfl
@[simp] theorem markWoken_fu (s : State) : (markWoken s).fu = s.fu := by
  unfold markWoken; refine (foldl_keeps (fun x : State => x.fu) _ (fun _ _ => by simp) _ _).trans ?_; rfl
@[simp] theorem markWoken_mu (s : State) : (markWoken s).mu = s.mu := by
  unfold markWoken; refine (foldl_keeps (fun x : State => x.mu) _ (fun _ _ => by simp) _ _).trans ?_; rfl
@[simp] theorem markWoken_clu (s : State) : (markWoken s).clu = s.clu := by
  unfold markWoken; refine (foldl_keeps (fun x : State => x.clu) _ (fun _ _ => by simp) _ _).trans ?_; rfl
@[simp] theorem markWoken_mp (s : State) : (markWoken s).mp = s.mp := by
  unfold markWoken; refine (foldl_keeps (fun x : State => x.mp) _ (fun _ _ => by simp) _ _).trans ?_; rfl
@[simp] theorem markWoken_pending (s : State) : (markWoken s).pending = s.pending := by
  unfold markWoken; refine (foldl_keeps (fun x : State => x.pending) _ (fun _ _ => by simp) _ _).trans ?_; rfl
@[simp] theorem markWoken_freeUsed (s : State) : (markWoken s).freeUsed = s.freeUsed := by
  unfold markWoken; refine (foldl_keeps (fun x : State => x.freeUsed) _ (fun _ _ => by simp) _ _).trans ?_; rfl
@[simp] theorem wakeDrain_powered (s : State) : (wakeDrain s).powered = s.powered := by
  unfold wakeDrain; split <;> simp
@[simp] theorem wakeDrain_up (s : State) : (wakeDrain s).up = s.up := by
  unfold wakeDrain; split <;> simp
@[simp] theorem wakeDrain_dp (s : State) : (wakeDrain s).dp = s.dp := by
  unfold wakeDrain; split <;> simp
@[simp] theorem wakeDrain_rmu (s : State) : (wakeDrain s).rmu = s.rmu := by
  unfold wakeDrain; split <;> simp
@[simp] theorem wakeDrain_hs (s : State) : (wakeDrain s).hs = s.hs := by
  unfold wakeDrain; split <;> simp
@[simp] theorem wakeDrain_ce (s : State) : (wakeDrain s).ce = s.ce := by
  unfold wakeDrain; split <;> simp
@[simp] theorem wakeDrain_fu (s : State) : (wakeDrain s).fu = s.fu := by
  unfold wakeDrain; split <;> simp
@[simp] theorem wakeDrain_mu (s : State) : (wakeDrain s).mu = s.mu := by
  unfold wakeDrain; split <;> simp
@[simp] theorem wakeDrain_clu (s : State) : (wakeDrain s).clu = s.clu := by
  unfold wakeDrain; split <;> simp
@[simp] theorem wakeDrain_mp (s : State) : (wakeDrain s).mp = s.mp := by
  unfold wakeDrain; split <;> simp
@[simp] theorem wakeDrain_pending (s : State) : (wakeDrain s).pending = s.pending := by
  unfold wakeDrain; split <;> simp
@[simp] theorem wakeDrain_freeUsed (s : State) : (wakeDrain s).freeUsed = s.freeUsed := by
  unfold wakeDrain; split <;> simp
@[simp] theorem wake_powered (s : State) : (wake s).powered = s.powered := by
  unfold wake; split <;> simp
@[simp] theorem wake_up (s : State) : (wake s).up = s.up := by
  unfold wake; split <;> simp
@[simp] theorem wake_dp (s : State) : (wake s).dp = s.dp := by
  unfold wake; split <;> simp
@[simp] theorem wake_rmu (s : State) : (wake s).rmu = s.rmu := by
  unfold wake; split <;> simp
@[simp] theorem wake_hs (s : State) : (wake s).hs = s.hs := by
  unfold wake; split <;> simp
@[simp] theorem wake_ce (s : State) : (wake s).ce = s.ce := by
  unfold wake; split <;> simp
@[simp] theorem wake_fu (s : State) : (wake s).fu = s.fu := by
  unfold wake; split <;> simp
@[simp] theorem wake_mu (s : State) : (wake s).mu = s.mu := by
  unfold wake; split <;> simp
@[simp] theorem wake_clu (s : State) : (wake s).clu = s.clu := by
  unfold wake; split <;> simp
@[simp] theorem wake_mp (s : State) : (wake s).mp = s.mp := by
  unfold wake; split <;> simp
@[simp] theorem wake_pending (s : State) : (wake s).pending = s.pending := by
  unfold wake; split <;> simp
@[simp] theorem wake_freeUsed (s : State) : (wake s).freeUsed = s.freeUsed := by
  unfold wake; split <;> simp
@[simp] theorem wakes_powered (n : Nat) (s : State) : (wakes n s).powered = s.powered := by
  induction n generalizing s with
  | zero => rfl
  | succ n ih => simp [wakes, ih]
@[simp] theorem wakes_up (n : Nat) (s : State) : (wakes n s).up = s.up := by
  induction n generalizing s with
  | zero => rfl
  | succ n ih => simp [wakes, ih]
@[simp] theorem wakes_dp (n : Nat) (s : State) : (wakes n s).dp = s.dp := by
  induction n generalizing s with
  | zero => rfl
  | succ n ih => simp [wakes, ih]
@[simp] theorem wakes_rmu (n : Nat) (s : State) : (wakes n s).rmu = s.rmu := by
  induction n generalizing s with
  | zero => rfl
  | succ n ih => simp [wakes, ih]
@[simp] theorem wakes_hs (n : Nat) (s : State) : (wakes n s).hs = s.hs := by
  induction n generalizing s with
  | zero => rfl
  | succ n ih => simp [wakes, ih]
@[simp] theorem wakes_ce (n : Nat) (s : State) : (wakes n s).ce = s.ce := by
  induction n generalizing s with
  | zero => rfl
  | succ n ih => simp [wakes, ih]
@[simp] theorem wakes_fu (n : Nat) (s : State) : (wakes n s).fu = s.fu := by
  induction n generalizing s with
  | zero => rfl
  | succ n ih => simp [wakes, ih]
@[simp] theorem wakes_mu (n : Nat) (s : State) : (wakes n s).mu = s.mu := by
  induction n generalizing s with
  | zero => rfl
  | succ n ih => simp [wakes, ih]
@[simp] theorem wakes_clu (n : Nat) (s : State) : (wakes n s).clu = s.clu := by
  induction n generalizing s with
  | zero => rfl
  | succ n ih => simp [wakes, ih]
@[simp] theorem wakes_mp (n : Nat) (s : State) : (wakes n s).mp = s.mp := by
  induction n generalizing s with
  | zero => rfl
  | succ n ih => simp [wakes, ih]
@[simp] theorem wakes_pending (n : Nat) (s : State) : (wakes n s).pending = s.pending := by
  induction n generalizing s with
  | zero => rfl
  | succ n ih => simp [wakes, ih]
@[simp] theorem wakes_freeUsed (n : Nat) (s : State) : (wakes n s).freeUsed = s.freeUsed := by
  induction n generalizing s with
  | zero => rfl
  | succ n ih => simp [wakes, ih]
@[simp] theorem wakeIf_powered (b : Bool) (s : State) : (wakeIf b s).powered = s.powered := by
  unfold wakeIf; split <;> simp
@[simp] theorem wakeIf_up (b : Bool) (s : State) : (wakeIf b s).up = s.up := by
  unfold wakeIf; split <;> simp
@[simp] theorem wakeIf_dp (b : Bool) (s : State) : (wakeIf b s).dp = s.dp := by
  unfold wakeIf; split <;> simp
@[simp] theorem wakeIf_rmu (b : Bool) (s : State) : (wakeIf b s).rmu = s.rmu := by
  unfold wakeIf; split <;> simp
@[simp] theorem wakeIf_hs (b : Bool) (s : State) : (wakeIf b s).hs = s.hs := by
  unfold wakeIf; split <;> simp
@[simp] theorem wakeIf_ce (b : Bool) (s : State) : (wakeIf b s).ce = s.ce := by
  unfold wakeIf; split <;> simp
@[simp] theorem wakeIf_fu (b : Bool) (s : State) : (wakeIf b s).fu = s.fu := by
  unfold wakeIf; split <;> simp
@[simp] theorem wakeIf_mu (b : Bool) (s : State) : (wakeIf b s).mu = s.mu := by
  unfold wakeIf; split <;> simp
@[simp] theorem wakeIf_clu (b : Bool) (s : State) : (wakeIf b s).clu = s.clu := by
  unfold wakeIf; split <;> simp
@[simp] theorem wakeIf_mp (b : Bool) (s : State) : (wakeIf b s).mp = s.mp := by
  unfold wakeIf; split <;> simp
@[simp] theorem wakeIf_pending (b : Bool) (s : State) : (wakeIf b s).pending = s.pending := by
  unfold wakeIf; split <;> simp
@[simp] theorem wakeIf_freeUsed (b : Bool) (s : State) : (wakeIf b s).freeUsed = s.freeUsed := by
  unfold wakeIf; split <;> simp
@[simp] theorem pacedExpiry_powered (s : State) : (pacedExpiry s).powered = s.powered := by
  unfold pacedExpiry; split <;> simp
@[simp] theorem pacedExpiry_up (s : State) : (pacedExpiry s).up = s.up := by
  unfold pacedExpiry; split <;> simp
@[simp] theorem pacedExpiry_dp (s : State) : (pacedExpiry s).dp = s.dp := by
  unfold pacedExpiry; split <;> simp
@[simp] theorem pacedExpiry_rmu (s : State) : (pacedExpiry s).rmu = s.rmu := by
  unfold pacedExpiry; split <;> simp
@[simp] theorem pacedExpiry_hs (s : State) : (pacedExpiry s).hs = s.hs := by
  unfold pacedExpiry; split <;> simp
@[simp] theorem pacedExpiry_ce (s : State) : (pacedExpiry s).ce = s.ce := by
  unfold pacedExpiry; split <;> simp
@[simp] theorem pacedExpiry_fu (s : State) : (pacedExpiry s).fu = s.fu := by
  unfold pacedExpiry; split <;> simp
@[simp] theorem pacedExpiry_mu (s : State) : (pacedExpiry s).mu = s.mu := by
  unfold pacedExpiry; split <;> simp
@[simp] theorem pacedExpiry_clu (s : State) : (pacedExpiry s).clu = s.clu := by
  unfold pacedExpiry; split <;> simp
@[simp] theorem pacedExpiry_mp (s : State) : (pacedExpiry s).mp = s.mp := by
  unfold pacedExpiry; split <;> simp
@[simp] theorem pacedExpiry_pending (s : State) : (pacedExpiry s).pending = s.pending := by
  unfold pacedExpiry; split <;> simp
@[simp] theorem pacedExpiry_freeUsed (s : State) : (pacedExpiry s).freeUsed = s.freeUsed := by
  unfold pacedExpiry; split <;> simp
@[simp] theorem evaluatePressure_powered (s : State) : (evaluatePressure s).powered = s.powered := by
  unfold evaluatePressure; dsimp only; (repeat' split) <;> simp
@[simp] theorem evaluatePressure_up (s : State) : (evaluatePressure s).up = s.up := by
  unfold evaluatePressure; dsimp only; (repeat' split) <;> simp
@[simp] theorem evaluatePressure_dp (s : State) : (evaluatePressure s).dp = s.dp := by
  unfold evaluatePressure; dsimp only; (repeat' split) <;> simp
@[simp] theorem evaluatePressure_rmu (s : State) : (evaluatePressure s).rmu = s.rmu := by
  unfold evaluatePressure; dsimp only; (repeat' split) <;> simp
@[simp] theorem evaluatePressure_gw (s : State) : (evaluatePressure s).gw = s.gw := by
  unfold evaluatePressure; dsimp only; (repeat' split) <;> simp
@[simp] theorem evaluatePressure_ce (s : State) : (evaluatePressure s).ce = s.ce := by
  unfold evaluatePressure; dsimp only; (repeat' split) <;> simp
@[simp] theorem evaluatePressure_fu (s : State) : (evaluatePressure s).fu = s.fu := by
  unfold evaluatePressure; dsimp only; (repeat' split) <;> simp
@[simp] theorem evaluatePressure_mu (s : State) : (evaluatePressure s).mu = s.mu := by
  unfold evaluatePressure; dsimp only; (repeat' split) <;> simp
@[simp] theorem evaluatePressure_clu (s : State) : (evaluatePressure s).clu = s.clu := by
  unfold evaluatePressure; dsimp only; (repeat' split) <;> simp
@[simp] theorem evaluatePressure_pending (s : State) : (evaluatePressure s).pending = s.pending := by
  unfold evaluatePressure; dsimp only; (repeat' split) <;> simp
@[simp] theorem evaluatePressure_freeUsed (s : State) : (evaluatePressure s).freeUsed = s.freeUsed := by
  unfold evaluatePressure; dsimp only; (repeat' split) <;> simp
@[simp] theorem noteFreed_powered (s : State) : (noteFreed s).powered = s.powered := by
  unfold noteFreed; split <;> simp
@[simp] theorem noteFreed_up (s : State) : (noteFreed s).up = s.up := by
  unfold noteFreed; split <;> simp
@[simp] theorem noteFreed_dp (s : State) : (noteFreed s).dp = s.dp := by
  unfold noteFreed; split <;> simp
@[simp] theorem noteFreed_rmu (s : State) : (noteFreed s).rmu = s.rmu := by
  unfold noteFreed; split <;> simp
@[simp] theorem noteFreed_gw (s : State) : (noteFreed s).gw = s.gw := by
  unfold noteFreed; split <;> simp
@[simp] theorem noteFreed_ce (s : State) : (noteFreed s).ce = s.ce := by
  unfold noteFreed; split <;> simp
@[simp] theorem noteFreed_fu (s : State) : (noteFreed s).fu = s.fu := by
  unfold noteFreed; split <;> simp
@[simp] theorem noteFreed_mu (s : State) : (noteFreed s).mu = s.mu := by
  unfold noteFreed; split <;> simp
@[simp] theorem noteFreed_clu (s : State) : (noteFreed s).clu = s.clu := by
  unfold noteFreed; split <;> simp
@[simp] theorem noteFreed_mp (s : State) : (noteFreed s).mp = s.mp := by
  unfold noteFreed; split <;> simp
@[simp] theorem noteFreed_pending (s : State) : (noteFreed s).pending = s.pending := by
  unfold noteFreed; split <;> simp
@[simp] theorem noteFreed_freeUsed (s : State) : (noteFreed s).freeUsed = s.freeUsed := by
  unfold noteFreed; split <;> simp
@[simp] theorem afterFreeing_powered (s : State) : (afterFreeing s).powered = s.powered := by simp [afterFreeing]
@[simp] theorem afterFreeing_up (s : State) : (afterFreeing s).up = s.up := by simp [afterFreeing]
@[simp] theorem afterFreeing_dp (s : State) : (afterFreeing s).dp = s.dp := by simp [afterFreeing]
@[simp] theorem afterFreeing_rmu (s : State) : (afterFreeing s).rmu = s.rmu := by simp [afterFreeing]
@[simp] theorem afterFreeing_gw (s : State) : (afterFreeing s).gw = s.gw := by simp [afterFreeing]
@[simp] theorem afterFreeing_ce (s : State) : (afterFreeing s).ce = s.ce := by simp [afterFreeing]
@[simp] theorem afterFreeing_fu (s : State) : (afterFreeing s).fu = s.fu := by simp [afterFreeing]
@[simp] theorem afterFreeing_mu (s : State) : (afterFreeing s).mu = s.mu := by simp [afterFreeing]
@[simp] theorem afterFreeing_clu (s : State) : (afterFreeing s).clu = s.clu := by simp [afterFreeing]
@[simp] theorem afterFreeing_pending (s : State) : (afterFreeing s).pending = s.pending := by simp [afterFreeing]
@[simp] theorem afterFreeing_freeUsed (s : State) : (afterFreeing s).freeUsed = s.freeUsed := by simp [afterFreeing]
@[simp] theorem standAt_powered (l : LaneName) (x : SearchPlace) (s : State) : (standAt l x s).powered = s.powered := by
  unfold standAt; dsimp only; split <;> rfl
@[simp] theorem standAt_up (l : LaneName) (x : SearchPlace) (s : State) : (standAt l x s).up = s.up := by
  unfold standAt; dsimp only; split <;> rfl
@[simp] theorem standAt_dp (l : LaneName) (x : SearchPlace) (s : State) : (standAt l x s).dp = s.dp := by
  unfold standAt; dsimp only; split <;> rfl
@[simp] theorem standAt_rmu (l : LaneName) (x : SearchPlace) (s : State) : (standAt l x s).rmu = s.rmu := by
  unfold standAt; dsimp only; split <;> rfl
@[simp] theorem standAt_hs (l : LaneName) (x : SearchPlace) (s : State) : (standAt l x s).hs = s.hs := by
  unfold standAt; dsimp only; split <;> rfl
@[simp] theorem standAt_ce (l : LaneName) (x : SearchPlace) (s : State) : (standAt l x s).ce = s.ce := by
  unfold standAt; dsimp only; split <;> rfl
@[simp] theorem standAt_fu (l : LaneName) (x : SearchPlace) (s : State) : (standAt l x s).fu = s.fu := by
  unfold standAt; dsimp only; split <;> rfl
@[simp] theorem standAt_mu (l : LaneName) (x : SearchPlace) (s : State) : (standAt l x s).mu = s.mu := by
  unfold standAt; dsimp only; split <;> rfl
@[simp] theorem standAt_clu (l : LaneName) (x : SearchPlace) (s : State) : (standAt l x s).clu = s.clu := by
  unfold standAt; dsimp only; split <;> rfl
@[simp] theorem standAt_mp (l : LaneName) (x : SearchPlace) (s : State) : (standAt l x s).mp = s.mp := by
  unfold standAt; dsimp only; split <;> rfl
@[simp] theorem standAt_pending (l : LaneName) (x : SearchPlace) (s : State) : (standAt l x s).pending = s.pending := by
  unfold standAt; dsimp only; split <;> rfl
@[simp] theorem standAt_freeUsed (l : LaneName) (x : SearchPlace) (s : State) : (standAt l x s).freeUsed = s.freeUsed := by
  unfold standAt; dsimp only; split <;> rfl
@[simp] theorem nameGone_powered (d : Descriptor) (s : State) : (nameGone d s).powered = s.powered := by
  unfold nameGone; dsimp only; (repeat' split) <;> simp
@[simp] theorem nameGone_up (d : Descriptor) (s : State) : (nameGone d s).up = s.up := by
  unfold nameGone; dsimp only; (repeat' split) <;> simp
@[simp] theorem nameGone_dp (d : Descriptor) (s : State) : (nameGone d s).dp = s.dp := by
  unfold nameGone; dsimp only; (repeat' split) <;> simp
@[simp] theorem nameGone_rmu (d : Descriptor) (s : State) : (nameGone d s).rmu = s.rmu := by
  unfold nameGone; dsimp only; (repeat' split) <;> simp
@[simp] theorem nameGone_hs (d : Descriptor) (s : State) : (nameGone d s).hs = s.hs := by
  unfold nameGone; dsimp only; (repeat' split) <;> simp
@[simp] theorem nameGone_ce (d : Descriptor) (s : State) : (nameGone d s).ce = s.ce := by
  unfold nameGone; dsimp only; (repeat' split) <;> simp
@[simp] theorem nameGone_fu (d : Descriptor) (s : State) : (nameGone d s).fu = s.fu := by
  unfold nameGone; dsimp only; (repeat' split) <;> simp
@[simp] theorem nameGone_mu (d : Descriptor) (s : State) : (nameGone d s).mu = s.mu := by
  unfold nameGone; dsimp only; (repeat' split) <;> simp
@[simp] theorem nameGone_clu (d : Descriptor) (s : State) : (nameGone d s).clu = s.clu := by
  unfold nameGone; dsimp only; (repeat' split) <;> simp
@[simp] theorem nameGone_mp (d : Descriptor) (s : State) : (nameGone d s).mp = s.mp := by
  unfold nameGone; dsimp only; (repeat' split) <;> simp
@[simp] theorem nameGone_pending (d : Descriptor) (s : State) : (nameGone d s).pending = s.pending := by
  unfold nameGone; dsimp only; (repeat' split) <;> simp
/-- R91: a discard uses a free value, one, only where a search may have named the head it takes. -/
@[simp] theorem namesGone_powered (p : Descriptor → Bool) (s : State) : (namesGone p s).powered = s.powered := by
  unfold namesGone; exact foldl_keeps (fun x : State => x.powered) _ (fun _ _ => by simp) _ _
@[simp] theorem namesGone_up (p : Descriptor → Bool) (s : State) : (namesGone p s).up = s.up := by
  unfold namesGone; exact foldl_keeps (fun x : State => x.up) _ (fun _ _ => by simp) _ _
@[simp] theorem namesGone_dp (p : Descriptor → Bool) (s : State) : (namesGone p s).dp = s.dp := by
  unfold namesGone; exact foldl_keeps (fun x : State => x.dp) _ (fun _ _ => by simp) _ _
@[simp] theorem namesGone_rmu (p : Descriptor → Bool) (s : State) : (namesGone p s).rmu = s.rmu := by
  unfold namesGone; exact foldl_keeps (fun x : State => x.rmu) _ (fun _ _ => by simp) _ _
@[simp] theorem namesGone_hs (p : Descriptor → Bool) (s : State) : (namesGone p s).hs = s.hs := by
  unfold namesGone; exact foldl_keeps (fun x : State => x.hs) _ (fun _ _ => by simp) _ _
@[simp] theorem namesGone_ce (p : Descriptor → Bool) (s : State) : (namesGone p s).ce = s.ce := by
  unfold namesGone; exact foldl_keeps (fun x : State => x.ce) _ (fun _ _ => by simp) _ _
@[simp] theorem namesGone_fu (p : Descriptor → Bool) (s : State) : (namesGone p s).fu = s.fu := by
  unfold namesGone; exact foldl_keeps (fun x : State => x.fu) _ (fun _ _ => by simp) _ _
@[simp] theorem namesGone_mu (p : Descriptor → Bool) (s : State) : (namesGone p s).mu = s.mu := by
  unfold namesGone; exact foldl_keeps (fun x : State => x.mu) _ (fun _ _ => by simp) _ _
@[simp] theorem namesGone_clu (p : Descriptor → Bool) (s : State) : (namesGone p s).clu = s.clu := by
  unfold namesGone; exact foldl_keeps (fun x : State => x.clu) _ (fun _ _ => by simp) _ _
@[simp] theorem namesGone_mp (p : Descriptor → Bool) (s : State) : (namesGone p s).mp = s.mp := by
  unfold namesGone; exact foldl_keeps (fun x : State => x.mp) _ (fun _ _ => by simp) _ _
@[simp] theorem namesGone_pending (p : Descriptor → Bool) (s : State) : (namesGone p s).pending = s.pending := by
  unfold namesGone; exact foldl_keeps (fun x : State => x.pending) _ (fun _ _ => by simp) _ _
theorem nameGone_freeUsed (d : Descriptor) (s : State) :
    (nameGone d s).freeUsed = s.freeUsed ∨ (nameGone d s).freeUsed = s.freeUsed + 1 := by
  unfold nameGone; dsimp only; (repeat' split) <;> simp
@[simp] theorem discardOne_powered (d : Descriptor) (s : State) : (discardOne d s).powered = s.powered := by
  simp [discardOne]
@[simp] theorem discardOne_up (d : Descriptor) (s : State) : (discardOne d s).up = s.up := by simp [discardOne]
@[simp] theorem discardOne_dp (d : Descriptor) (s : State) : (discardOne d s).dp = s.dp := by simp [discardOne]
@[simp] theorem discardOne_rmu (d : Descriptor) (s : State) : (discardOne d s).rmu = s.rmu := by simp [discardOne]
@[simp] theorem discardOne_ce (d : Descriptor) (s : State) : (discardOne d s).ce = s.ce := by simp [discardOne]
@[simp] theorem discardOne_fu (d : Descriptor) (s : State) : (discardOne d s).fu = s.fu := by simp [discardOne]
@[simp] theorem discardOne_mu (d : Descriptor) (s : State) : (discardOne d s).mu = s.mu := by simp [discardOne]
@[simp] theorem discardOne_clu (d : Descriptor) (s : State) : (discardOne d s).clu = s.clu := by simp [discardOne]
@[simp] theorem discardOne_mp (d : Descriptor) (s : State) : (discardOne d s).mp = s.mp := by simp [discardOne]
@[simp] theorem discardOne_pending (d : Descriptor) (s : State) : (discardOne d s).pending = s.pending := by
  simp [discardOne]
@[simp] theorem discardOne_freeUsed (d : Descriptor) (s : State) : (discardOne d s).freeUsed = s.freeUsed := by
  simp [discardOne]
@[simp] theorem setReservation_powered (c : Nat) (f : Reservation → Reservation) (s : State) : (setReservation c f s).powered = s.powered :=
  rfl
@[simp] theorem setReservation_up (c : Nat) (f : Reservation → Reservation) (s : State) : (setReservation c f s).up = s.up :=
  rfl
@[simp] theorem setReservation_dp (c : Nat) (f : Reservation → Reservation) (s : State) : (setReservation c f s).dp = s.dp :=
  rfl
@[simp] theorem setReservation_rmu (c : Nat) (f : Reservation → Reservation) (s : State) : (setReservation c f s).rmu = s.rmu :=
  rfl
@[simp] theorem setReservation_gw (c : Nat) (f : Reservation → Reservation) (s : State) : (setReservation c f s).gw = s.gw :=
  rfl
@[simp] theorem setReservation_ce (c : Nat) (f : Reservation → Reservation) (s : State) : (setReservation c f s).ce = s.ce :=
  rfl
@[simp] theorem setReservation_fu (c : Nat) (f : Reservation → Reservation) (s : State) : (setReservation c f s).fu = s.fu :=
  rfl
@[simp] theorem setReservation_mu (c : Nat) (f : Reservation → Reservation) (s : State) : (setReservation c f s).mu = s.mu :=
  rfl
@[simp] theorem setReservation_clu (c : Nat) (f : Reservation → Reservation) (s : State) : (setReservation c f s).clu = s.clu :=
  rfl
@[simp] theorem setReservation_mp (c : Nat) (f : Reservation → Reservation) (s : State) : (setReservation c f s).mp = s.mp :=
  rfl
@[simp] theorem setReservation_pending (c : Nat) (f : Reservation → Reservation) (s : State) : (setReservation c f s).pending = s.pending :=
  rfl
@[simp] theorem setReservation_freeUsed (c : Nat) (f : Reservation → Reservation) (s : State) : (setReservation c f s).freeUsed = s.freeUsed :=
  rfl
@[simp] theorem setData_powered (c : Nat) (d : DataState) (s : State) : (setData c d s).powered = s.powered := by
  simp [setData]
@[simp] theorem setData_up (c : Nat) (d : DataState) (s : State) : (setData c d s).up = s.up := by simp [setData]
@[simp] theorem setData_dp (c : Nat) (d : DataState) (s : State) : (setData c d s).dp = s.dp := by simp [setData]
@[simp] theorem setData_rmu (c : Nat) (d : DataState) (s : State) : (setData c d s).rmu = s.rmu := by simp [setData]
@[simp] theorem setData_ce (c : Nat) (d : DataState) (s : State) : (setData c d s).ce = s.ce := by simp [setData]
@[simp] theorem setData_fu (c : Nat) (d : DataState) (s : State) : (setData c d s).fu = s.fu := by simp [setData]
@[simp] theorem setData_mu (c : Nat) (d : DataState) (s : State) : (setData c d s).mu = s.mu := by simp [setData]
@[simp] theorem setData_clu (c : Nat) (d : DataState) (s : State) : (setData c d s).clu = s.clu := by simp [setData]
@[simp] theorem setData_mp (c : Nat) (d : DataState) (s : State) : (setData c d s).mp = s.mp := by simp [setData]
@[simp] theorem setData_pending (c : Nat) (d : DataState) (s : State) : (setData c d s).pending = s.pending := by
  simp [setData]
@[simp] theorem setData_freeUsed (c : Nat) (d : DataState) (s : State) : (setData c d s).freeUsed = s.freeUsed := by
  simp [setData]
@[simp] theorem setTransmission_powered (c : Nat) (t : Transmission) (s : State) : (setTransmission c t s).powered = s.powered :=
  rfl
@[simp] theorem setTransmission_up (c : Nat) (t : Transmission) (s : State) : (setTransmission c t s).up = s.up := rfl
@[simp] theorem setTransmission_dp (c : Nat) (t : Transmission) (s : State) : (setTransmission c t s).dp = s.dp := rfl
@[simp] theorem setTransmission_rmu (c : Nat) (t : Transmission) (s : State) : (setTransmission c t s).rmu = s.rmu :=
  rfl
@[simp] theorem setTransmission_gw (c : Nat) (t : Transmission) (s : State) : (setTransmission c t s).gw = s.gw := rfl
@[simp] theorem setTransmission_ce (c : Nat) (t : Transmission) (s : State) : (setTransmission c t s).ce = s.ce := rfl
@[simp] theorem setTransmission_fu (c : Nat) (t : Transmission) (s : State) : (setTransmission c t s).fu = s.fu := rfl
@[simp] theorem setTransmission_mu (c : Nat) (t : Transmission) (s : State) : (setTransmission c t s).mu = s.mu := rfl
@[simp] theorem setTransmission_clu (c : Nat) (t : Transmission) (s : State) : (setTransmission c t s).clu = s.clu :=
  rfl
@[simp] theorem setTransmission_mp (c : Nat) (t : Transmission) (s : State) : (setTransmission c t s).mp = s.mp := rfl
@[simp] theorem setTransmission_pending (c : Nat) (t : Transmission) (s : State) : (setTransmission c t s).pending = s.pending :=
  rfl
@[simp] theorem setTransmission_freeUsed (c : Nat) (t : Transmission) (s : State) : (setTransmission c t s).freeUsed = s.freeUsed :=
  rfl
@[simp] theorem reclaim_powered (c : Nat) (s : State) : (reclaim c s).powered = s.powered := rfl
@[simp] theorem reclaim_up (c : Nat) (s : State) : (reclaim c s).up = s.up := rfl
@[simp] theorem reclaim_dp (c : Nat) (s : State) : (reclaim c s).dp = s.dp := rfl
@[simp] theorem reclaim_rmu (c : Nat) (s : State) : (reclaim c s).rmu = s.rmu := rfl
@[simp] theorem reclaim_gw (c : Nat) (s : State) : (reclaim c s).gw = s.gw := rfl
@[simp] theorem reclaim_ce (c : Nat) (s : State) : (reclaim c s).ce = s.ce := rfl
@[simp] theorem reclaim_fu (c : Nat) (s : State) : (reclaim c s).fu = s.fu := rfl
@[simp] theorem reclaim_mu (c : Nat) (s : State) : (reclaim c s).mu = s.mu := rfl
@[simp] theorem reclaim_clu (c : Nat) (s : State) : (reclaim c s).clu = s.clu := rfl
@[simp] theorem reclaim_mp (c : Nat) (s : State) : (reclaim c s).mp = s.mp := rfl
@[simp] theorem reclaim_pending (c : Nat) (s : State) : (reclaim c s).pending = s.pending := rfl
@[simp] theorem reclaim_freeUsed (c : Nat) (s : State) : (reclaim c s).freeUsed = s.freeUsed := rfl
@[simp] theorem freeCellsIfFinished_powered (c : Nat) (s : State) : (freeCellsIfFinished c s).powered = s.powered := by
  unfold freeCellsIfFinished; (repeat' split) <;> simp
@[simp] theorem freeCellsIfFinished_up (c : Nat) (s : State) : (freeCellsIfFinished c s).up = s.up := by
  unfold freeCellsIfFinished; (repeat' split) <;> simp
@[simp] theorem freeCellsIfFinished_dp (c : Nat) (s : State) : (freeCellsIfFinished c s).dp = s.dp := by
  unfold freeCellsIfFinished; (repeat' split) <;> simp
@[simp] theorem freeCellsIfFinished_rmu (c : Nat) (s : State) : (freeCellsIfFinished c s).rmu = s.rmu := by
  unfold freeCellsIfFinished; (repeat' split) <;> simp
@[simp] theorem freeCellsIfFinished_gw (c : Nat) (s : State) : (freeCellsIfFinished c s).gw = s.gw := by
  unfold freeCellsIfFinished; (repeat' split) <;> simp
@[simp] theorem freeCellsIfFinished_ce (c : Nat) (s : State) : (freeCellsIfFinished c s).ce = s.ce := by
  unfold freeCellsIfFinished; (repeat' split) <;> simp
@[simp] theorem freeCellsIfFinished_fu (c : Nat) (s : State) : (freeCellsIfFinished c s).fu = s.fu := by
  unfold freeCellsIfFinished; (repeat' split) <;> simp
@[simp] theorem freeCellsIfFinished_mu (c : Nat) (s : State) : (freeCellsIfFinished c s).mu = s.mu := by
  unfold freeCellsIfFinished; (repeat' split) <;> simp
@[simp] theorem freeCellsIfFinished_clu (c : Nat) (s : State) : (freeCellsIfFinished c s).clu = s.clu := by
  unfold freeCellsIfFinished; (repeat' split) <;> simp
@[simp] theorem freeCellsIfFinished_pending (c : Nat) (s : State) : (freeCellsIfFinished c s).pending = s.pending := by
  unfold freeCellsIfFinished; (repeat' split) <;> simp
@[simp] theorem freeCellsIfFinished_freeUsed (c : Nat) (s : State) : (freeCellsIfFinished c s).freeUsed = s.freeUsed := by
  unfold freeCellsIfFinished; (repeat' split) <;> simp
@[simp] theorem discardHeldWrite_powered (x : Descriptor) (c : Nat) (d : DataState) (s : State) : (discardHeldWrite x c d s).powered = s.powered := by
  simp [discardHeldWrite]
@[simp] theorem discardHeldWrite_up (x : Descriptor) (c : Nat) (d : DataState) (s : State) : (discardHeldWrite x c d s).up = s.up := by
  simp [discardHeldWrite]
@[simp] theorem discardHeldWrite_dp (x : Descriptor) (c : Nat) (d : DataState) (s : State) : (discardHeldWrite x c d s).dp = s.dp := by
  simp [discardHeldWrite]
@[simp] theorem discardHeldWrite_rmu (x : Descriptor) (c : Nat) (d : DataState) (s : State) : (discardHeldWrite x c d s).rmu = s.rmu := by
  simp [discardHeldWrite]
@[simp] theorem discardHeldWrite_ce (x : Descriptor) (c : Nat) (d : DataState) (s : State) : (discardHeldWrite x c d s).ce = s.ce := by
  simp [discardHeldWrite]
@[simp] theorem discardHeldWrite_fu (x : Descriptor) (c : Nat) (d : DataState) (s : State) : (discardHeldWrite x c d s).fu = s.fu := by
  simp [discardHeldWrite]
@[simp] theorem discardHeldWrite_mu (x : Descriptor) (c : Nat) (d : DataState) (s : State) : (discardHeldWrite x c d s).mu = s.mu := by
  simp [discardHeldWrite]
@[simp] theorem discardHeldWrite_clu (x : Descriptor) (c : Nat) (d : DataState) (s : State) : (discardHeldWrite x c d s).clu = s.clu := by
  simp [discardHeldWrite]
@[simp] theorem discardHeldWrite_mp (x : Descriptor) (c : Nat) (d : DataState) (s : State) : (discardHeldWrite x c d s).mp = s.mp := by
  simp [discardHeldWrite]
@[simp] theorem discardHeldWrite_pending (x : Descriptor) (c : Nat) (d : DataState) (s : State) : (discardHeldWrite x c d s).pending = s.pending := by
  simp [discardHeldWrite]
@[simp] theorem discardAll_powered (p : Descriptor → Bool) (f : Reservation → Reservation) (s : State) : (discardAll p f s).powered = s.powered := by
  unfold discardAll; dsimp only; split <;> simp
@[simp] theorem discardAll_up (p : Descriptor → Bool) (f : Reservation → Reservation) (s : State) : (discardAll p f s).up = s.up := by
  unfold discardAll; dsimp only; split <;> simp
@[simp] theorem discardAll_dp (p : Descriptor → Bool) (f : Reservation → Reservation) (s : State) : (discardAll p f s).dp = s.dp := by
  unfold discardAll; dsimp only; split <;> simp
@[simp] theorem discardAll_rmu (p : Descriptor → Bool) (f : Reservation → Reservation) (s : State) : (discardAll p f s).rmu = s.rmu := by
  unfold discardAll; dsimp only; split <;> simp
@[simp] theorem discardAll_ce (p : Descriptor → Bool) (f : Reservation → Reservation) (s : State) : (discardAll p f s).ce = s.ce := by
  unfold discardAll; dsimp only; split <;> simp
@[simp] theorem discardAll_fu (p : Descriptor → Bool) (f : Reservation → Reservation) (s : State) : (discardAll p f s).fu = s.fu := by
  unfold discardAll; dsimp only; split <;> simp
@[simp] theorem discardAll_mu (p : Descriptor → Bool) (f : Reservation → Reservation) (s : State) : (discardAll p f s).mu = s.mu := by
  unfold discardAll; dsimp only; split <;> simp
@[simp] theorem discardAll_clu (p : Descriptor → Bool) (f : Reservation → Reservation) (s : State) : (discardAll p f s).clu = s.clu := by
  unfold discardAll; dsimp only; split <;> simp
@[simp] theorem discardAll_pending (p : Descriptor → Bool) (f : Reservation → Reservation) (s : State) : (discardAll p f s).pending = s.pending := by
  unfold discardAll; dsimp only; split <;> simp
@[simp] theorem discardAll_freeUsed (p : Descriptor → Bool) (f : Reservation → Reservation) (s : State) : (discardAll p f s).freeUsed = s.freeUsed := by
  unfold discardAll; dsimp only; split <;> simp
@[simp] theorem answerDefer_powered (ds : List Descriptor) (s : State) : (answerDefer ds s).powered = s.powered := by
  unfold answerDefer; refine (foldl_keeps (fun x : State => x.powered) _ (fun _ _ => by simp) _ _).trans ?_; rfl
@[simp] theorem answerDefer_dp (ds : List Descriptor) (s : State) : (answerDefer ds s).dp = s.dp := by
  unfold answerDefer; refine (foldl_keeps (fun x : State => x.dp) _ (fun _ _ => by simp) _ _).trans ?_; rfl
@[simp] theorem answerDefer_rmu (ds : List Descriptor) (s : State) : (answerDefer ds s).rmu = s.rmu := by
  unfold answerDefer; refine (foldl_keeps (fun x : State => x.rmu) _ (fun _ _ => by simp) _ _).trans ?_; rfl
@[simp] theorem answerDefer_hs (ds : List Descriptor) (s : State) : (answerDefer ds s).hs = s.hs := by
  unfold answerDefer; refine (foldl_keeps (fun x : State => x.hs) _ (fun _ _ => by simp) _ _).trans ?_; rfl
@[simp] theorem answerDefer_gw (ds : List Descriptor) (s : State) : (answerDefer ds s).gw = s.gw := by
  unfold answerDefer; refine (foldl_keeps (fun x : State => x.gw) _ (fun _ _ => by simp) _ _).trans ?_; rfl
@[simp] theorem answerDefer_ce (ds : List Descriptor) (s : State) : (answerDefer ds s).ce = s.ce := by
  unfold answerDefer; refine (foldl_keeps (fun x : State => x.ce) _ (fun _ _ => by simp) _ _).trans ?_; rfl
@[simp] theorem answerDefer_fu (ds : List Descriptor) (s : State) : (answerDefer ds s).fu = s.fu := by
  unfold answerDefer; refine (foldl_keeps (fun x : State => x.fu) _ (fun _ _ => by simp) _ _).trans ?_; rfl
@[simp] theorem answerDefer_mu (ds : List Descriptor) (s : State) : (answerDefer ds s).mu = s.mu := by
  unfold answerDefer; refine (foldl_keeps (fun x : State => x.mu) _ (fun _ _ => by simp) _ _).trans ?_; rfl
@[simp] theorem answerDefer_clu (ds : List Descriptor) (s : State) : (answerDefer ds s).clu = s.clu := by
  unfold answerDefer; refine (foldl_keeps (fun x : State => x.clu) _ (fun _ _ => by simp) _ _).trans ?_; rfl
@[simp] theorem answerDefer_mp (ds : List Descriptor) (s : State) : (answerDefer ds s).mp = s.mp := by
  unfold answerDefer; refine (foldl_keeps (fun x : State => x.mp) _ (fun _ _ => by simp) _ _).trans ?_; rfl
@[simp] theorem answerDefer_pending (ds : List Descriptor) (s : State) : (answerDefer ds s).pending = s.pending := by
  unfold answerDefer; refine (foldl_keeps (fun x : State => x.pending) _ (fun _ _ => by simp) _ _).trans ?_; rfl
@[simp] theorem answerDefer_freeUsed (ds : List Descriptor) (s : State) : (answerDefer ds s).freeUsed = s.freeUsed := by
  unfold answerDefer; refine (foldl_keeps (fun x : State => x.freeUsed) _ (fun _ _ => by simp) _ _).trans ?_; rfl
@[simp] theorem removeFlight_powered (r : ReqId) (t : Tag) (s : State) : (removeFlight r t s).powered = s.powered := by
  unfold removeFlight; split <;> simp
@[simp] theorem removeFlight_up (r : ReqId) (t : Tag) (s : State) : (removeFlight r t s).up = s.up := by
  unfold removeFlight; split <;> simp
@[simp] theorem removeFlight_dp (r : ReqId) (t : Tag) (s : State) : (removeFlight r t s).dp = s.dp := by
  unfold removeFlight; split <;> simp
@[simp] theorem removeFlight_rmu (r : ReqId) (t : Tag) (s : State) : (removeFlight r t s).rmu = s.rmu := by
  unfold removeFlight; split <;> simp
@[simp] theorem removeFlight_hs (r : ReqId) (t : Tag) (s : State) : (removeFlight r t s).hs = s.hs := by
  unfold removeFlight; split <;> simp
@[simp] theorem removeFlight_ce (r : ReqId) (t : Tag) (s : State) : (removeFlight r t s).ce = s.ce := by
  unfold removeFlight; split <;> simp
@[simp] theorem removeFlight_mu (r : ReqId) (t : Tag) (s : State) : (removeFlight r t s).mu = s.mu := by
  unfold removeFlight; split <;> simp
@[simp] theorem removeFlight_clu (r : ReqId) (t : Tag) (s : State) : (removeFlight r t s).clu = s.clu := by
  unfold removeFlight; split <;> simp
@[simp] theorem removeFlight_mp (r : ReqId) (t : Tag) (s : State) : (removeFlight r t s).mp = s.mp := by
  unfold removeFlight; split <;> simp
@[simp] theorem removeFlight_pending (r : ReqId) (t : Tag) (s : State) : (removeFlight r t s).pending = s.pending := by
  unfold removeFlight; split <;> simp
@[simp] theorem removeFlight_freeUsed (r : ReqId) (t : Tag) (s : State) : (removeFlight r t s).freeUsed = s.freeUsed := by
  unfold removeFlight; split <;> simp
@[simp] theorem flightBegins_powered (t : Txn) (s : State) : (flightBegins t s).powered = s.powered := rfl
@[simp] theorem flightBegins_up (t : Txn) (s : State) : (flightBegins t s).up = s.up := rfl
@[simp] theorem flightBegins_dp (t : Txn) (s : State) : (flightBegins t s).dp = s.dp := rfl
@[simp] theorem flightBegins_rmu (t : Txn) (s : State) : (flightBegins t s).rmu = s.rmu := rfl
@[simp] theorem flightBegins_hs (t : Txn) (s : State) : (flightBegins t s).hs = s.hs := rfl
@[simp] theorem flightBegins_gw (t : Txn) (s : State) : (flightBegins t s).gw = s.gw := rfl
@[simp] theorem flightBegins_ce (t : Txn) (s : State) : (flightBegins t s).ce = s.ce := rfl
@[simp] theorem flightBegins_mu (t : Txn) (s : State) : (flightBegins t s).mu = s.mu := rfl
@[simp] theorem flightBegins_clu (t : Txn) (s : State) : (flightBegins t s).clu = s.clu := rfl
@[simp] theorem flightBegins_mp (t : Txn) (s : State) : (flightBegins t s).mp = s.mp := rfl
@[simp] theorem flightBegins_pending (t : Txn) (s : State) : (flightBegins t s).pending = s.pending := rfl
@[simp] theorem flightBegins_freeUsed (t : Txn) (s : State) : (flightBegins t s).freeUsed = s.freeUsed := rfl
@[simp] theorem flightAwaits_powered (t : Txn) (s : State) : (flightAwaits t s).powered = s.powered := rfl
@[simp] theorem flightAwaits_up (t : Txn) (s : State) : (flightAwaits t s).up = s.up := rfl
@[simp] theorem flightAwaits_dp (t : Txn) (s : State) : (flightAwaits t s).dp = s.dp := rfl
@[simp] theorem flightAwaits_rmu (t : Txn) (s : State) : (flightAwaits t s).rmu = s.rmu := rfl
@[simp] theorem flightAwaits_hs (t : Txn) (s : State) : (flightAwaits t s).hs = s.hs := rfl
@[simp] theorem flightAwaits_gw (t : Txn) (s : State) : (flightAwaits t s).gw = s.gw := rfl
@[simp] theorem flightAwaits_ce (t : Txn) (s : State) : (flightAwaits t s).ce = s.ce := rfl
@[simp] theorem flightAwaits_mu (t : Txn) (s : State) : (flightAwaits t s).mu = s.mu := rfl
@[simp] theorem flightAwaits_clu (t : Txn) (s : State) : (flightAwaits t s).clu = s.clu := rfl
@[simp] theorem flightAwaits_mp (t : Txn) (s : State) : (flightAwaits t s).mp = s.mp := rfl
@[simp] theorem flightAwaits_pending (t : Txn) (s : State) : (flightAwaits t s).pending = s.pending := rfl
@[simp] theorem flightAwaits_freeUsed (t : Txn) (s : State) : (flightAwaits t s).freeUsed = s.freeUsed := rfl
@[simp] theorem answerFlight_powered (f : FlightEntry) (st : Status) (s : State) : (answerFlight f st s).powered = s.powered := by
  unfold answerFlight; split <;> simp
@[simp] theorem answerFlight_dp (f : FlightEntry) (st : Status) (s : State) : (answerFlight f st s).dp = s.dp := by
  unfold answerFlight; split <;> simp
@[simp] theorem answerFlight_rmu (f : FlightEntry) (st : Status) (s : State) : (answerFlight f st s).rmu = s.rmu := by
  unfold answerFlight; split <;> simp
@[simp] theorem answerFlight_hs (f : FlightEntry) (st : Status) (s : State) : (answerFlight f st s).hs = s.hs := by
  unfold answerFlight; split <;> simp
@[simp] theorem answerFlight_gw (f : FlightEntry) (st : Status) (s : State) : (answerFlight f st s).gw = s.gw := by
  unfold answerFlight; split <;> simp
@[simp] theorem answerFlight_ce (f : FlightEntry) (st : Status) (s : State) : (answerFlight f st s).ce = s.ce := by
  unfold answerFlight; split <;> simp
@[simp] theorem answerFlight_fu (f : FlightEntry) (st : Status) (s : State) : (answerFlight f st s).fu = s.fu := by
  unfold answerFlight; split <;> simp
@[simp] theorem answerFlight_mu (f : FlightEntry) (st : Status) (s : State) : (answerFlight f st s).mu = s.mu := by
  unfold answerFlight; split <;> simp
@[simp] theorem answerFlight_clu (f : FlightEntry) (st : Status) (s : State) : (answerFlight f st s).clu = s.clu := by
  unfold answerFlight; split <;> simp
@[simp] theorem answerFlight_mp (f : FlightEntry) (st : Status) (s : State) : (answerFlight f st s).mp = s.mp := by
  unfold answerFlight; split <;> simp
@[simp] theorem answerFlight_pending (f : FlightEntry) (st : Status) (s : State) : (answerFlight f st s).pending = s.pending := by
  unfold answerFlight; split <;> simp
@[simp] theorem answerFlight_freeUsed (f : FlightEntry) (st : Status) (s : State) : (answerFlight f st s).freeUsed = s.freeUsed := by
  unfold answerFlight; split <;> simp
@[simp] theorem endWaitIfReady_powered (c : Nat) (s : State) : (endWaitIfReady c s).powered = s.powered := by
  unfold endWaitIfReady; (repeat' split) <;> simp
@[simp] theorem endWaitIfReady_up (c : Nat) (s : State) : (endWaitIfReady c s).up = s.up := by
  unfold endWaitIfReady; (repeat' split) <;> simp
@[simp] theorem endWaitIfReady_rmu (c : Nat) (s : State) : (endWaitIfReady c s).rmu = s.rmu := by
  unfold endWaitIfReady; (repeat' split) <;> simp
@[simp] theorem endWaitIfReady_hs (c : Nat) (s : State) : (endWaitIfReady c s).hs = s.hs := by
  unfold endWaitIfReady; (repeat' split) <;> simp
@[simp] theorem endWaitIfReady_gw (c : Nat) (s : State) : (endWaitIfReady c s).gw = s.gw := by
  unfold endWaitIfReady; (repeat' split) <;> simp
@[simp] theorem endWaitIfReady_ce (c : Nat) (s : State) : (endWaitIfReady c s).ce = s.ce := by
  unfold endWaitIfReady; (repeat' split) <;> simp
@[simp] theorem endWaitIfReady_fu (c : Nat) (s : State) : (endWaitIfReady c s).fu = s.fu := by
  unfold endWaitIfReady; (repeat' split) <;> simp
@[simp] theorem endWaitIfReady_mu (c : Nat) (s : State) : (endWaitIfReady c s).mu = s.mu := by
  unfold endWaitIfReady; (repeat' split) <;> simp
@[simp] theorem endWaitIfReady_clu (c : Nat) (s : State) : (endWaitIfReady c s).clu = s.clu := by
  unfold endWaitIfReady; (repeat' split) <;> simp
@[simp] theorem endWaitIfReady_mp (c : Nat) (s : State) : (endWaitIfReady c s).mp = s.mp := by
  unfold endWaitIfReady; (repeat' split) <;> simp
@[simp] theorem endWaitIfReady_pending (c : Nat) (s : State) : (endWaitIfReady c s).pending = s.pending := by
  unfold endWaitIfReady; (repeat' split) <;> simp
@[simp] theorem endWaitIfReady_freeUsed (c : Nat) (s : State) : (endWaitIfReady c s).freeUsed = s.freeUsed := by
  unfold endWaitIfReady; (repeat' split) <;> simp
@[simp] theorem cutReleased_powered (c : Nat) (s : State) : (cutReleased c s).powered = s.powered := by
  unfold cutReleased; split <;> simp
@[simp] theorem cutReleased_up (c : Nat) (s : State) : (cutReleased c s).up = s.up := by
  unfold cutReleased; split <;> simp
@[simp] theorem cutReleased_rmu (c : Nat) (s : State) : (cutReleased c s).rmu = s.rmu := by
  unfold cutReleased; split <;> simp
@[simp] theorem cutReleased_ce (c : Nat) (s : State) : (cutReleased c s).ce = s.ce := by
  unfold cutReleased; split <;> simp
@[simp] theorem cutReleased_fu (c : Nat) (s : State) : (cutReleased c s).fu = s.fu := by
  unfold cutReleased; split <;> simp
@[simp] theorem cutReleased_mu (c : Nat) (s : State) : (cutReleased c s).mu = s.mu := by
  unfold cutReleased; split <;> simp
@[simp] theorem cutReleased_clu (c : Nat) (s : State) : (cutReleased c s).clu = s.clu := by
  unfold cutReleased; split <;> simp
@[simp] theorem cutReleased_mp (c : Nat) (s : State) : (cutReleased c s).mp = s.mp := by
  unfold cutReleased; split <;> simp
@[simp] theorem cutReleased_pending (c : Nat) (s : State) : (cutReleased c s).pending = s.pending := by
  unfold cutReleased; split <;> simp
@[simp] theorem cutReleased_freeUsed (c : Nat) (s : State) : (cutReleased c s).freeUsed = s.freeUsed := by
  unfold cutReleased; split <;> simp
@[simp] theorem lengthMismatch_powered (c : Nat) (d : DataState) (s : State) : (lengthMismatch c d s).powered = s.powered := by
  unfold lengthMismatch; (repeat' split) <;> simp
@[simp] theorem lengthMismatch_rmu (c : Nat) (d : DataState) (s : State) : (lengthMismatch c d s).rmu = s.rmu := by
  unfold lengthMismatch; (repeat' split) <;> simp
@[simp] theorem lengthMismatch_ce (c : Nat) (d : DataState) (s : State) : (lengthMismatch c d s).ce = s.ce := by
  unfold lengthMismatch; (repeat' split) <;> simp
@[simp] theorem lengthMismatch_mu (c : Nat) (d : DataState) (s : State) : (lengthMismatch c d s).mu = s.mu := by
  unfold lengthMismatch; (repeat' split) <;> simp
@[simp] theorem lengthMismatch_clu (c : Nat) (d : DataState) (s : State) : (lengthMismatch c d s).clu = s.clu := by
  unfold lengthMismatch; (repeat' split) <;> simp
@[simp] theorem lengthMismatch_pending (c : Nat) (d : DataState) (s : State) : (lengthMismatch c d s).pending = s.pending := by
  unfold lengthMismatch; (repeat' split) <;> simp
@[simp] theorem requesterAborts_powered (c : Nat) (s : State) : (requesterAborts c s).powered = s.powered := by
  unfold requesterAborts; (repeat' split) <;> simp
@[simp] theorem requesterAborts_up (c : Nat) (s : State) : (requesterAborts c s).up = s.up := by
  unfold requesterAborts; (repeat' split) <;> simp
@[simp] theorem requesterAborts_rmu (c : Nat) (s : State) : (requesterAborts c s).rmu = s.rmu := by
  unfold requesterAborts; (repeat' split) <;> simp
@[simp] theorem requesterAborts_ce (c : Nat) (s : State) : (requesterAborts c s).ce = s.ce := by
  unfold requesterAborts; (repeat' split) <;> simp
@[simp] theorem requesterAborts_mu (c : Nat) (s : State) : (requesterAborts c s).mu = s.mu := by
  unfold requesterAborts; (repeat' split) <;> simp
@[simp] theorem requesterAborts_clu (c : Nat) (s : State) : (requesterAborts c s).clu = s.clu := by
  unfold requesterAborts; (repeat' split) <;> simp
@[simp] theorem requesterAborts_pending (c : Nat) (s : State) : (requesterAborts c s).pending = s.pending := by
  unfold requesterAborts; (repeat' split) <;> simp
@[simp] theorem closeReception_powered (c : Nat) (ev : Closing) (s : State) : (closeReception c ev s).powered = s.powered := by
  unfold closeReception; (repeat' split) <;> simp
@[simp] theorem closeReception_rmu (c : Nat) (ev : Closing) (s : State) : (closeReception c ev s).rmu = s.rmu := by
  unfold closeReception; (repeat' split) <;> simp
@[simp] theorem closeReception_ce (c : Nat) (ev : Closing) (s : State) : (closeReception c ev s).ce = s.ce := by
  unfold closeReception; (repeat' split) <;> simp
@[simp] theorem closeReception_mu (c : Nat) (ev : Closing) (s : State) : (closeReception c ev s).mu = s.mu := by
  unfold closeReception; (repeat' split) <;> simp
@[simp] theorem closeReception_clu (c : Nat) (ev : Closing) (s : State) : (closeReception c ev s).clu = s.clu := by
  unfold closeReception; (repeat' split) <;> simp
@[simp] theorem closeReception_pending (c : Nat) (ev : Closing) (s : State) : (closeReception c ev s).pending = s.pending := by
  unfold closeReception; (repeat' split) <;> simp
@[simp] theorem landBeat_powered (c : Nat) (b : Beat) (s : State) : (landBeat c b s).powered = s.powered := by
  unfold landBeat; (repeat' split) <;> simp
@[simp] theorem landBeat_rmu (c : Nat) (b : Beat) (s : State) : (landBeat c b s).rmu = s.rmu := by
  unfold landBeat; (repeat' split) <;> simp
@[simp] theorem landBeat_ce (c : Nat) (b : Beat) (s : State) : (landBeat c b s).ce = s.ce := by
  unfold landBeat; (repeat' split) <;> simp
@[simp] theorem landBeat_mu (c : Nat) (b : Beat) (s : State) : (landBeat c b s).mu = s.mu := by
  unfold landBeat; (repeat' split) <;> simp
@[simp] theorem landBeat_clu (c : Nat) (b : Beat) (s : State) : (landBeat c b s).clu = s.clu := by
  unfold landBeat; (repeat' split) <;> simp
@[simp] theorem landBeat_pending (c : Nat) (b : Beat) (s : State) : (landBeat c b s).pending = s.pending := by
  unfold landBeat; (repeat' split) <;> simp
@[simp] theorem handResponse_powered (r : Response) (s : State) : (handResponse r s).powered = s.powered := by
  unfold handResponse; (repeat' split) <;> simp
@[simp] theorem handResponse_up (r : Response) (s : State) : (handResponse r s).up = s.up := by
  unfold handResponse; (repeat' split) <;> simp
@[simp] theorem handResponse_rmu (r : Response) (s : State) : (handResponse r s).rmu = s.rmu := by
  unfold handResponse; (repeat' split) <;> simp
@[simp] theorem handResponse_hs (r : Response) (s : State) : (handResponse r s).hs = s.hs := by
  unfold handResponse; (repeat' split) <;> simp
@[simp] theorem handResponse_ce (r : Response) (s : State) : (handResponse r s).ce = s.ce := by
  unfold handResponse; (repeat' split) <;> simp
@[simp] theorem handResponse_mu (r : Response) (s : State) : (handResponse r s).mu = s.mu := by
  unfold handResponse; (repeat' split) <;> simp
@[simp] theorem handResponse_clu (r : Response) (s : State) : (handResponse r s).clu = s.clu := by
  unfold handResponse; (repeat' split) <;> simp
@[simp] theorem handResponse_pending (r : Response) (s : State) : (handResponse r s).pending = s.pending := by
  unfold handResponse; (repeat' split) <;> simp
@[simp] theorem handResponse_freeUsed (r : Response) (s : State) : (handResponse r s).freeUsed = s.freeUsed := by
  unfold handResponse; (repeat' split) <;> simp

end Sys2Proof.Machine
end

