-- ==== Sys2Proof/Laws/FramePorts.lean ====
section
/-! SUPPORT. Which parts of the state the operations behind the link and lane commands leave alone: one lemma per operation
and part. -/

namespace Sys2Proof.Machine

@[simp] theorem setReception_powered (r : UpReception) (s : State) : (setReception r s).powered = s.powered := rfl
@[simp] theorem setReception_dp (r : UpReception) (s : State) : (setReception r s).dp = s.dp := rfl
@[simp] theorem setReception_rmu (r : UpReception) (s : State) : (setReception r s).rmu = s.rmu := rfl
@[simp] theorem setReception_hs (r : UpReception) (s : State) : (setReception r s).hs = s.hs := rfl
@[simp] theorem setReception_gw (r : UpReception) (s : State) : (setReception r s).gw = s.gw := rfl
@[simp] theorem setReception_ce (r : UpReception) (s : State) : (setReception r s).ce = s.ce := rfl
@[simp] theorem setReception_fu (r : UpReception) (s : State) : (setReception r s).fu = s.fu := rfl
@[simp] theorem setReception_mu (r : UpReception) (s : State) : (setReception r s).mu = s.mu := rfl
@[simp] theorem setReception_clu (r : UpReception) (s : State) : (setReception r s).clu = s.clu := rfl
@[simp] theorem setReception_mp (r : UpReception) (s : State) : (setReception r s).mp = s.mp := rfl
@[simp] theorem setReception_pending (r : UpReception) (s : State) : (setReception r s).pending = s.pending := rfl
@[simp] theorem setReception_freeUsed (r : UpReception) (s : State) : (setReception r s).freeUsed = s.freeUsed := rfl
@[simp] theorem endPacket_powered (ev : Closing) (s : State) : (endPacket ev s).powered = s.powered := by
  unfold endPacket; split <;> simp
@[simp] theorem endPacket_rmu (ev : Closing) (s : State) : (endPacket ev s).rmu = s.rmu := by
  unfold endPacket; split <;> simp
@[simp] theorem endPacket_ce (ev : Closing) (s : State) : (endPacket ev s).ce = s.ce := by
  unfold endPacket; split <;> simp
@[simp] theorem endPacket_mu (ev : Closing) (s : State) : (endPacket ev s).mu = s.mu := by
  unfold endPacket; split <;> simp
@[simp] theorem endPacket_clu (ev : Closing) (s : State) : (endPacket ev s).clu = s.clu := by
  unfold endPacket; split <;> simp
@[simp] theorem endPacket_pending (ev : Closing) (s : State) : (endPacket ev s).pending = s.pending := by
  unfold endPacket; split <;> simp
@[simp] theorem headerArrives_powered (h : Header) (s : State) : (headerArrives h s).powered = s.powered := by
  unfold headerArrives; dsimp only; (repeat' split) <;> simp
@[simp] theorem headerArrives_rmu (h : Header) (s : State) : (headerArrives h s).rmu = s.rmu := by
  unfold headerArrives; dsimp only; (repeat' split) <;> simp
@[simp] theorem headerArrives_ce (h : Header) (s : State) : (headerArrives h s).ce = s.ce := by
  unfold headerArrives; dsimp only; (repeat' split) <;> simp
@[simp] theorem headerArrives_mu (h : Header) (s : State) : (headerArrives h s).mu = s.mu := by
  unfold headerArrives; dsimp only; (repeat' split) <;> simp
@[simp] theorem headerArrives_clu (h : Header) (s : State) : (headerArrives h s).clu = s.clu := by
  unfold headerArrives; dsimp only; (repeat' split) <;> simp
@[simp] theorem headerArrives_pending (h : Header) (s : State) : (headerArrives h s).pending = s.pending := by
  unfold headerArrives; dsimp only; (repeat' split) <;> simp
@[simp] theorem loseBeat_powered (s : State) : (loseBeat s).powered = s.powered := by
  unfold loseBeat; split <;> simp
@[simp] theorem loseBeat_dp (s : State) : (loseBeat s).dp = s.dp := by
  unfold loseBeat; split <;> simp
@[simp] theorem loseBeat_rmu (s : State) : (loseBeat s).rmu = s.rmu := by
  unfold loseBeat; split <;> simp
@[simp] theorem loseBeat_gw (s : State) : (loseBeat s).gw = s.gw := by
  unfold loseBeat; split <;> simp
@[simp] theorem loseBeat_ce (s : State) : (loseBeat s).ce = s.ce := by
  unfold loseBeat; split <;> simp
@[simp] theorem loseBeat_fu (s : State) : (loseBeat s).fu = s.fu := by
  unfold loseBeat; split <;> simp
@[simp] theorem loseBeat_mu (s : State) : (loseBeat s).mu = s.mu := by
  unfold loseBeat; split <;> simp
@[simp] theorem loseBeat_clu (s : State) : (loseBeat s).clu = s.clu := by
  unfold loseBeat; split <;> simp
@[simp] theorem loseBeat_mp (s : State) : (loseBeat s).mp = s.mp := by
  unfold loseBeat; split <;> simp
@[simp] theorem loseBeat_pending (s : State) : (loseBeat s).pending = s.pending := by
  unfold loseBeat; split <;> simp
@[simp] theorem loseBeat_freeUsed (s : State) : (loseBeat s).freeUsed = s.freeUsed := by
  unfold loseBeat; split <;> simp
@[simp] theorem beatArrives_powered (b : Beat) (s : State) : (beatArrives b s).powered = s.powered := by
  unfold beatArrives; (repeat' split) <;> simp
@[simp] theorem beatArrives_rmu (b : Beat) (s : State) : (beatArrives b s).rmu = s.rmu := by
  unfold beatArrives; (repeat' split) <;> simp
@[simp] theorem beatArrives_ce (b : Beat) (s : State) : (beatArrives b s).ce = s.ce := by
  unfold beatArrives; (repeat' split) <;> simp
@[simp] theorem beatArrives_mu (b : Beat) (s : State) : (beatArrives b s).mu = s.mu := by
  unfold beatArrives; (repeat' split) <;> simp
@[simp] theorem beatArrives_clu (b : Beat) (s : State) : (beatArrives b s).clu = s.clu := by
  unfold beatArrives; (repeat' split) <;> simp
@[simp] theorem beatArrives_pending (b : Beat) (s : State) : (beatArrives b s).pending = s.pending := by
  unfold beatArrives; (repeat' split) <;> simp
@[simp] theorem markArrives_powered (ev : Closing) (s : State) : (markArrives ev s).powered = s.powered := by
  unfold markArrives; split <;> simp
@[simp] theorem markArrives_rmu (ev : Closing) (s : State) : (markArrives ev s).rmu = s.rmu := by
  unfold markArrives; split <;> simp
@[simp] theorem markArrives_ce (ev : Closing) (s : State) : (markArrives ev s).ce = s.ce := by
  unfold markArrives; split <;> simp
@[simp] theorem markArrives_mu (ev : Closing) (s : State) : (markArrives ev s).mu = s.mu := by
  unfold markArrives; split <;> simp
@[simp] theorem markArrives_clu (ev : Closing) (s : State) : (markArrives ev s).clu = s.clu := by
  unfold markArrives; split <;> simp
@[simp] theorem markArrives_pending (ev : Closing) (s : State) : (markArrives ev s).pending = s.pending := by
  unfold markArrives; split <;> simp
@[simp] theorem takeSwitchCredits_powered (n m : Nat) (s : State) : (takeSwitchCredits n m s).powered = s.powered :=
  rfl
@[simp] theorem takeSwitchCredits_dp (n m : Nat) (s : State) : (takeSwitchCredits n m s).dp = s.dp := rfl
@[simp] theorem takeSwitchCredits_rmu (n m : Nat) (s : State) : (takeSwitchCredits n m s).rmu = s.rmu := rfl
@[simp] theorem takeSwitchCredits_hs (n m : Nat) (s : State) : (takeSwitchCredits n m s).hs = s.hs := rfl
@[simp] theorem takeSwitchCredits_gw (n m : Nat) (s : State) : (takeSwitchCredits n m s).gw = s.gw := rfl
@[simp] theorem takeSwitchCredits_ce (n m : Nat) (s : State) : (takeSwitchCredits n m s).ce = s.ce := rfl
@[simp] theorem takeSwitchCredits_fu (n m : Nat) (s : State) : (takeSwitchCredits n m s).fu = s.fu := rfl
@[simp] theorem takeSwitchCredits_mu (n m : Nat) (s : State) : (takeSwitchCredits n m s).mu = s.mu := rfl
@[simp] theorem takeSwitchCredits_clu (n m : Nat) (s : State) : (takeSwitchCredits n m s).clu = s.clu := rfl
@[simp] theorem takeSwitchCredits_mp (n m : Nat) (s : State) : (takeSwitchCredits n m s).mp = s.mp := rfl
@[simp] theorem takeSwitchCredits_pending (n m : Nat) (s : State) : (takeSwitchCredits n m s).pending = s.pending :=
  rfl
@[simp] theorem takeSwitchCredits_freeUsed (n m : Nat) (s : State) : (takeSwitchCredits n m s).freeUsed = s.freeUsed :=
  rfl
@[simp] theorem putUp_powered (k : ResponseKind) (h : Header) (b : List Beat) (s : State) : (putUp k h b s).powered = s.powered :=
  rfl
@[simp] theorem putUp_dp (k : ResponseKind) (h : Header) (b : List Beat) (s : State) : (putUp k h b s).dp = s.dp :=
  rfl
@[simp] theorem putUp_rmu (k : ResponseKind) (h : Header) (b : List Beat) (s : State) : (putUp k h b s).rmu = s.rmu :=
  rfl
@[simp] theorem putUp_hs (k : ResponseKind) (h : Header) (b : List Beat) (s : State) : (putUp k h b s).hs = s.hs :=
  rfl
@[simp] theorem putUp_gw (k : ResponseKind) (h : Header) (b : List Beat) (s : State) : (putUp k h b s).gw = s.gw :=
  rfl
@[simp] theorem putUp_ce (k : ResponseKind) (h : Header) (b : List Beat) (s : State) : (putUp k h b s).ce = s.ce :=
  rfl
@[simp] theorem putUp_fu (k : ResponseKind) (h : Header) (b : List Beat) (s : State) : (putUp k h b s).fu = s.fu :=
  rfl
@[simp] theorem putUp_mu (k : ResponseKind) (h : Header) (b : List Beat) (s : State) : (putUp k h b s).mu = s.mu :=
  rfl
@[simp] theorem putUp_clu (k : ResponseKind) (h : Header) (b : List Beat) (s : State) : (putUp k h b s).clu = s.clu :=
  rfl
@[simp] theorem putUp_mp (k : ResponseKind) (h : Header) (b : List Beat) (s : State) : (putUp k h b s).mp = s.mp :=
  rfl
@[simp] theorem putUp_pending (k : ResponseKind) (h : Header) (b : List Beat) (s : State) : (putUp k h b s).pending = s.pending :=
  rfl
@[simp] theorem putUp_freeUsed (k : ResponseKind) (h : Header) (b : List Beat) (s : State) : (putUp k h b s).freeUsed = s.freeUsed :=
  rfl
@[simp] theorem sendForwarded_powered (s : State) : (sendForwarded s).powered = s.powered := by
  unfold sendForwarded; split <;> simp
@[simp] theorem sendForwarded_rmu (s : State) : (sendForwarded s).rmu = s.rmu := by
  unfold sendForwarded; split <;> simp
@[simp] theorem sendForwarded_hs (s : State) : (sendForwarded s).hs = s.hs := by
  unfold sendForwarded; split <;> simp
@[simp] theorem sendForwarded_gw (s : State) : (sendForwarded s).gw = s.gw := by
  unfold sendForwarded; split <;> simp
@[simp] theorem sendForwarded_ce (s : State) : (sendForwarded s).ce = s.ce := by
  unfold sendForwarded; split <;> simp
@[simp] theorem sendForwarded_fu (s : State) : (sendForwarded s).fu = s.fu := by
  unfold sendForwarded; split <;> simp
@[simp] theorem sendForwarded_mu (s : State) : (sendForwarded s).mu = s.mu := by
  unfold sendForwarded; split <;> simp
@[simp] theorem sendForwarded_clu (s : State) : (sendForwarded s).clu = s.clu := by
  unfold sendForwarded; split <;> simp
@[simp] theorem sendForwarded_mp (s : State) : (sendForwarded s).mp = s.mp := by
  unfold sendForwarded; split <;> simp
@[simp] theorem sendForwarded_pending (s : State) : (sendForwarded s).pending = s.pending := by
  unfold sendForwarded; split <;> simp
@[simp] theorem sendForwarded_freeUsed (s : State) : (sendForwarded s).freeUsed = s.freeUsed := by
  unfold sendForwarded; split <;> simp
@[simp] theorem sendGenerated_powered (s : State) : (sendGenerated s).powered = s.powered := by
  unfold sendGenerated; split <;> simp
@[simp] theorem sendGenerated_dp (s : State) : (sendGenerated s).dp = s.dp := by
  unfold sendGenerated; split <;> simp
@[simp] theorem sendGenerated_rmu (s : State) : (sendGenerated s).rmu = s.rmu := by
  unfold sendGenerated; split <;> simp
@[simp] theorem sendGenerated_hs (s : State) : (sendGenerated s).hs = s.hs := by
  unfold sendGenerated; split <;> simp
@[simp] theorem sendGenerated_gw (s : State) : (sendGenerated s).gw = s.gw := by
  unfold sendGenerated; split <;> simp
@[simp] theorem sendGenerated_ce (s : State) : (sendGenerated s).ce = s.ce := by
  unfold sendGenerated; split <;> simp
@[simp] theorem sendGenerated_fu (s : State) : (sendGenerated s).fu = s.fu := by
  unfold sendGenerated; split <;> simp
@[simp] theorem sendGenerated_mu (s : State) : (sendGenerated s).mu = s.mu := by
  unfold sendGenerated; split <;> simp
@[simp] theorem sendGenerated_clu (s : State) : (sendGenerated s).clu = s.clu := by
  unfold sendGenerated; split <;> simp
@[simp] theorem sendGenerated_mp (s : State) : (sendGenerated s).mp = s.mp := by
  unfold sendGenerated; split <;> simp
@[simp] theorem sendGenerated_pending (s : State) : (sendGenerated s).pending = s.pending := by
  unfold sendGenerated; split <;> simp
@[simp] theorem sendGenerated_freeUsed (s : State) : (sendGenerated s).freeUsed = s.freeUsed := by
  unfold sendGenerated; split <;> simp
@[simp] theorem sendResponse_powered (s : State) : (sendResponse s).powered = s.powered := by
  unfold sendResponse; split <;> simp
@[simp] theorem sendResponse_rmu (s : State) : (sendResponse s).rmu = s.rmu := by
  unfold sendResponse; split <;> simp
@[simp] theorem sendResponse_hs (s : State) : (sendResponse s).hs = s.hs := by
  unfold sendResponse; split <;> simp
@[simp] theorem sendResponse_gw (s : State) : (sendResponse s).gw = s.gw := by
  unfold sendResponse; split <;> simp
@[simp] theorem sendResponse_ce (s : State) : (sendResponse s).ce = s.ce := by
  unfold sendResponse; split <;> simp
@[simp] theorem sendResponse_fu (s : State) : (sendResponse s).fu = s.fu := by
  unfold sendResponse; split <;> simp
@[simp] theorem sendResponse_mu (s : State) : (sendResponse s).mu = s.mu := by
  unfold sendResponse; split <;> simp
@[simp] theorem sendResponse_clu (s : State) : (sendResponse s).clu = s.clu := by
  unfold sendResponse; split <;> simp
@[simp] theorem sendResponse_mp (s : State) : (sendResponse s).mp = s.mp := by
  unfold sendResponse; split <;> simp
@[simp] theorem sendResponse_pending (s : State) : (sendResponse s).pending = s.pending := by
  unfold sendResponse; split <;> simp
@[simp] theorem sendResponse_freeUsed (s : State) : (sendResponse s).freeUsed = s.freeUsed := by
  unfold sendResponse; split <;> simp
@[simp] theorem takeHead_powered (r : List ArrivalPacket) (x : UpReception) (s : State) : (takeHead r x s).powered = s.powered := by
  simp [takeHead]
@[simp] theorem takeHead_dp (r : List ArrivalPacket) (x : UpReception) (s : State) : (takeHead r x s).dp = s.dp := by
  simp [takeHead]
@[simp] theorem takeHead_rmu (r : List ArrivalPacket) (x : UpReception) (s : State) : (takeHead r x s).rmu = s.rmu := by
  simp [takeHead]
@[simp] theorem takeHead_gw (r : List ArrivalPacket) (x : UpReception) (s : State) : (takeHead r x s).gw = s.gw := by
  simp [takeHead]
@[simp] theorem takeHead_ce (r : List ArrivalPacket) (x : UpReception) (s : State) : (takeHead r x s).ce = s.ce := by
  simp [takeHead]
@[simp] theorem takeHead_fu (r : List ArrivalPacket) (x : UpReception) (s : State) : (takeHead r x s).fu = s.fu := by
  simp [takeHead]
@[simp] theorem takeHead_mu (r : List ArrivalPacket) (x : UpReception) (s : State) : (takeHead r x s).mu = s.mu := by
  simp [takeHead]
@[simp] theorem takeHead_clu (r : List ArrivalPacket) (x : UpReception) (s : State) : (takeHead r x s).clu = s.clu := by
  simp [takeHead]
@[simp] theorem takeHead_mp (r : List ArrivalPacket) (x : UpReception) (s : State) : (takeHead r x s).mp = s.mp := by
  simp [takeHead]
@[simp] theorem takeHead_pending (r : List ArrivalPacket) (x : UpReception) (s : State) : (takeHead r x s).pending = s.pending := by
  simp [takeHead]
@[simp] theorem takeHead_freeUsed (r : List ArrivalPacket) (x : UpReception) (s : State) : (takeHead r x s).freeUsed = s.freeUsed := by
  simp [takeHead]
@[simp] theorem answerHead_powered (p : ArrivalPacket) (r : List ArrivalPacket) (st : Status) (s : State) : (answerHead p r st s).powered = s.powered := by
  simp [answerHead]
@[simp] theorem answerHead_dp (p : ArrivalPacket) (r : List ArrivalPacket) (st : Status) (s : State) : (answerHead p r st s).dp = s.dp := by
  simp [answerHead]
@[simp] theorem answerHead_rmu (p : ArrivalPacket) (r : List ArrivalPacket) (st : Status) (s : State) : (answerHead p r st s).rmu = s.rmu := by
  simp [answerHead]
@[simp] theorem answerHead_gw (p : ArrivalPacket) (r : List ArrivalPacket) (st : Status) (s : State) : (answerHead p r st s).gw = s.gw := by
  simp [answerHead]
@[simp] theorem answerHead_ce (p : ArrivalPacket) (r : List ArrivalPacket) (st : Status) (s : State) : (answerHead p r st s).ce = s.ce := by
  simp [answerHead]
@[simp] theorem answerHead_fu (p : ArrivalPacket) (r : List ArrivalPacket) (st : Status) (s : State) : (answerHead p r st s).fu = s.fu := by
  simp [answerHead]
@[simp] theorem answerHead_mu (p : ArrivalPacket) (r : List ArrivalPacket) (st : Status) (s : State) : (answerHead p r st s).mu = s.mu := by
  simp [answerHead]
@[simp] theorem answerHead_clu (p : ArrivalPacket) (r : List ArrivalPacket) (st : Status) (s : State) : (answerHead p r st s).clu = s.clu := by
  simp [answerHead]
@[simp] theorem answerHead_mp (p : ArrivalPacket) (r : List ArrivalPacket) (st : Status) (s : State) : (answerHead p r st s).mp = s.mp := by
  simp [answerHead]
@[simp] theorem answerHead_pending (p : ArrivalPacket) (r : List ArrivalPacket) (st : Status) (s : State) : (answerHead p r st s).pending = s.pending := by
  simp [answerHead]
@[simp] theorem answerHead_freeUsed (p : ArrivalPacket) (r : List ArrivalPacket) (st : Status) (s : State) : (answerHead p r st s).freeUsed = s.freeUsed := by
  simp [answerHead]
@[simp] theorem meterDeferral_powered (e : EntryIx) (s : State) : (meterDeferral e s).powered = s.powered := rfl
@[simp] theorem meterDeferral_up (e : EntryIx) (s : State) : (meterDeferral e s).up = s.up := rfl
@[simp] theorem meterDeferral_dp (e : EntryIx) (s : State) : (meterDeferral e s).dp = s.dp := rfl
@[simp] theorem meterDeferral_rmu (e : EntryIx) (s : State) : (meterDeferral e s).rmu = s.rmu := rfl
@[simp] theorem meterDeferral_hs (e : EntryIx) (s : State) : (meterDeferral e s).hs = s.hs := rfl
@[simp] theorem meterDeferral_gw (e : EntryIx) (s : State) : (meterDeferral e s).gw = s.gw := rfl
@[simp] theorem meterDeferral_ce (e : EntryIx) (s : State) : (meterDeferral e s).ce = s.ce := rfl
@[simp] theorem meterDeferral_fu (e : EntryIx) (s : State) : (meterDeferral e s).fu = s.fu := rfl
@[simp] theorem meterDeferral_clu (e : EntryIx) (s : State) : (meterDeferral e s).clu = s.clu := rfl
@[simp] theorem meterDeferral_mp (e : EntryIx) (s : State) : (meterDeferral e s).mp = s.mp := rfl
@[simp] theorem meterDeferral_pending (e : EntryIx) (s : State) : (meterDeferral e s).pending = s.pending := rfl
@[simp] theorem meterDeferral_freeUsed (e : EntryIx) (s : State) : (meterDeferral e s).freeUsed = s.freeUsed := rfl
@[simp] theorem storeHeld_powered (p : ArrivalPacket) (e : EntryIx) (s : State) : (storeHeld p e s).powered = s.powered :=
  rfl
@[simp] theorem storeHeld_up (p : ArrivalPacket) (e : EntryIx) (s : State) : (storeHeld p e s).up = s.up := rfl
@[simp] theorem storeHeld_dp (p : ArrivalPacket) (e : EntryIx) (s : State) : (storeHeld p e s).dp = s.dp := rfl
@[simp] theorem storeHeld_rmu (p : ArrivalPacket) (e : EntryIx) (s : State) : (storeHeld p e s).rmu = s.rmu := rfl
@[simp] theorem storeHeld_gw (p : ArrivalPacket) (e : EntryIx) (s : State) : (storeHeld p e s).gw = s.gw := rfl
@[simp] theorem storeHeld_ce (p : ArrivalPacket) (e : EntryIx) (s : State) : (storeHeld p e s).ce = s.ce := rfl
@[simp] theorem storeHeld_fu (p : ArrivalPacket) (e : EntryIx) (s : State) : (storeHeld p e s).fu = s.fu := rfl
@[simp] theorem storeHeld_mu (p : ArrivalPacket) (e : EntryIx) (s : State) : (storeHeld p e s).mu = s.mu := rfl
@[simp] theorem storeHeld_clu (p : ArrivalPacket) (e : EntryIx) (s : State) : (storeHeld p e s).clu = s.clu := rfl
@[simp] theorem storeHeld_mp (p : ArrivalPacket) (e : EntryIx) (s : State) : (storeHeld p e s).mp = s.mp := rfl
@[simp] theorem storeHeld_pending (p : ArrivalPacket) (e : EntryIx) (s : State) : (storeHeld p e s).pending = s.pending :=
  rfl
@[simp] theorem storeHeld_freeUsed (p : ArrivalPacket) (e : EntryIx) (s : State) : (storeHeld p e s).freeUsed = s.freeUsed :=
  rfl
@[simp] theorem holdHead_powered (p : ArrivalPacket) (r : List ArrivalPacket) (e : EntryIx) (s : State) : (holdHead p r e s).powered = s.powered := by
  have b := fun t (c : Nat) => foldl_keeps (fun x : State => x.powered) (fun t b => landBeat c b t) (fun _ _ => by simp) p.beats t
  unfold holdHead; dsimp only at b ⊢; (repeat' split) <;> simp [b]
@[simp] theorem holdHead_rmu (p : ArrivalPacket) (r : List ArrivalPacket) (e : EntryIx) (s : State) : (holdHead p r e s).rmu = s.rmu := by
  have b := fun t (c : Nat) => foldl_keeps (fun x : State => x.rmu) (fun t b => landBeat c b t) (fun _ _ => by simp) p.beats t
  unfold holdHead; dsimp only at b ⊢; (repeat' split) <;> simp [b]
@[simp] theorem holdHead_ce (p : ArrivalPacket) (r : List ArrivalPacket) (e : EntryIx) (s : State) : (holdHead p r e s).ce = s.ce := by
  have b := fun t (c : Nat) => foldl_keeps (fun x : State => x.ce) (fun t b => landBeat c b t) (fun _ _ => by simp) p.beats t
  unfold holdHead; dsimp only at b ⊢; (repeat' split) <;> simp [b]
@[simp] theorem holdHead_mu (p : ArrivalPacket) (r : List ArrivalPacket) (e : EntryIx) (s : State) : (holdHead p r e s).mu = s.mu := by
  have b := fun t (c : Nat) => foldl_keeps (fun x : State => x.mu) (fun t b => landBeat c b t) (fun _ _ => by simp) p.beats t
  unfold holdHead; dsimp only at b ⊢; (repeat' split) <;> simp [b]
@[simp] theorem holdHead_clu (p : ArrivalPacket) (r : List ArrivalPacket) (e : EntryIx) (s : State) : (holdHead p r e s).clu = s.clu := by
  have b := fun t (c : Nat) => foldl_keeps (fun x : State => x.clu) (fun t b => landBeat c b t) (fun _ _ => by simp) p.beats t
  unfold holdHead; dsimp only at b ⊢; (repeat' split) <;> simp [b]
@[simp] theorem holdHead_pending (p : ArrivalPacket) (r : List ArrivalPacket) (e : EntryIx) (s : State) : (holdHead p r e s).pending = s.pending := by
  have b := fun t (c : Nat) => foldl_keeps (fun x : State => x.pending) (fun t b => landBeat c b t) (fun _ _ => by simp) p.beats t
  unfold holdHead; dsimp only at b ⊢; (repeat' split) <;> simp [b]
@[simp] theorem dispose_powered (s : State) : (dispose s).powered = s.powered := by
  unfold dispose; (repeat' split) <;> simp
@[simp] theorem dispose_rmu (s : State) : (dispose s).rmu = s.rmu := by
  unfold dispose; (repeat' split) <;> simp
@[simp] theorem dispose_ce (s : State) : (dispose s).ce = s.ce := by
  unfold dispose; (repeat' split) <;> simp
@[simp] theorem dispose_clu (s : State) : (dispose s).clu = s.clu := by
  unfold dispose; (repeat' split) <;> simp
@[simp] theorem dispose_pending (s : State) : (dispose s).pending = s.pending := by
  unfold dispose; (repeat' split) <;> simp
@[simp] theorem movePointer_powered (l : LaneName) (c : SvcClass) (e : EntryIx) (s : State) : (movePointer l c e s).powered = s.powered :=
  rfl
@[simp] theorem movePointer_up (l : LaneName) (c : SvcClass) (e : EntryIx) (s : State) : (movePointer l c e s).up = s.up :=
  rfl
@[simp] theorem movePointer_dp (l : LaneName) (c : SvcClass) (e : EntryIx) (s : State) : (movePointer l c e s).dp = s.dp :=
  rfl
@[simp] theorem movePointer_rmu (l : LaneName) (c : SvcClass) (e : EntryIx) (s : State) : (movePointer l c e s).rmu = s.rmu :=
  rfl
@[simp] theorem movePointer_hs (l : LaneName) (c : SvcClass) (e : EntryIx) (s : State) : (movePointer l c e s).hs = s.hs :=
  rfl
@[simp] theorem movePointer_ce (l : LaneName) (c : SvcClass) (e : EntryIx) (s : State) : (movePointer l c e s).ce = s.ce :=
  rfl
@[simp] theorem movePointer_fu (l : LaneName) (c : SvcClass) (e : EntryIx) (s : State) : (movePointer l c e s).fu = s.fu :=
  rfl
@[simp] theorem movePointer_mu (l : LaneName) (c : SvcClass) (e : EntryIx) (s : State) : (movePointer l c e s).mu = s.mu :=
  rfl
@[simp] theorem movePointer_clu (l : LaneName) (c : SvcClass) (e : EntryIx) (s : State) : (movePointer l c e s).clu = s.clu :=
  rfl
@[simp] theorem movePointer_mp (l : LaneName) (c : SvcClass) (e : EntryIx) (s : State) : (movePointer l c e s).mp = s.mp :=
  rfl
@[simp] theorem movePointer_pending (l : LaneName) (c : SvcClass) (e : EntryIx) (s : State) : (movePointer l c e s).pending = s.pending :=
  rfl
@[simp] theorem movePointer_freeUsed (l : LaneName) (c : SvcClass) (e : EntryIx) (s : State) : (movePointer l c e s).freeUsed = s.freeUsed :=
  rfl
@[simp] theorem chargeEntry_powered (e : EntryIx) (t : Txn) (s : State) : (chargeEntry e t s).powered = s.powered :=
  rfl
@[simp] theorem chargeEntry_up (e : EntryIx) (t : Txn) (s : State) : (chargeEntry e t s).up = s.up := rfl
@[simp] theorem chargeEntry_dp (e : EntryIx) (t : Txn) (s : State) : (chargeEntry e t s).dp = s.dp := rfl
@[simp] theorem chargeEntry_rmu (e : EntryIx) (t : Txn) (s : State) : (chargeEntry e t s).rmu = s.rmu := rfl
@[simp] theorem chargeEntry_hs (e : EntryIx) (t : Txn) (s : State) : (chargeEntry e t s).hs = s.hs := rfl
@[simp] theorem chargeEntry_gw (e : EntryIx) (t : Txn) (s : State) : (chargeEntry e t s).gw = s.gw := rfl
@[simp] theorem chargeEntry_fu (e : EntryIx) (t : Txn) (s : State) : (chargeEntry e t s).fu = s.fu := rfl
@[simp] theorem chargeEntry_mu (e : EntryIx) (t : Txn) (s : State) : (chargeEntry e t s).mu = s.mu := rfl
@[simp] theorem chargeEntry_clu (e : EntryIx) (t : Txn) (s : State) : (chargeEntry e t s).clu = s.clu := rfl
@[simp] theorem chargeEntry_mp (e : EntryIx) (t : Txn) (s : State) : (chargeEntry e t s).mp = s.mp := rfl
@[simp] theorem chargeEntry_pending (e : EntryIx) (t : Txn) (s : State) : (chargeEntry e t s).pending = s.pending :=
  rfl
@[simp] theorem chargeEntry_freeUsed (e : EntryIx) (t : Txn) (s : State) : (chargeEntry e t s).freeUsed = s.freeUsed :=
  rfl
@[simp] theorem meterRelease_powered (e : EntryIx) (n : Nat) (s : State) : (meterRelease e n s).powered = s.powered :=
  rfl
@[simp] theorem meterRelease_up (e : EntryIx) (n : Nat) (s : State) : (meterRelease e n s).up = s.up := rfl
@[simp] theorem meterRelease_dp (e : EntryIx) (n : Nat) (s : State) : (meterRelease e n s).dp = s.dp := rfl
@[simp] theorem meterRelease_rmu (e : EntryIx) (n : Nat) (s : State) : (meterRelease e n s).rmu = s.rmu := rfl
@[simp] theorem meterRelease_hs (e : EntryIx) (n : Nat) (s : State) : (meterRelease e n s).hs = s.hs := rfl
@[simp] theorem meterRelease_gw (e : EntryIx) (n : Nat) (s : State) : (meterRelease e n s).gw = s.gw := rfl
@[simp] theorem meterRelease_ce (e : EntryIx) (n : Nat) (s : State) : (meterRelease e n s).ce = s.ce := rfl
@[simp] theorem meterRelease_fu (e : EntryIx) (n : Nat) (s : State) : (meterRelease e n s).fu = s.fu := rfl
@[simp] theorem meterRelease_clu (e : EntryIx) (n : Nat) (s : State) : (meterRelease e n s).clu = s.clu := rfl
@[simp] theorem meterRelease_mp (e : EntryIx) (n : Nat) (s : State) : (meterRelease e n s).mp = s.mp := rfl
@[simp] theorem meterRelease_pending (e : EntryIx) (n : Nat) (s : State) : (meterRelease e n s).pending = s.pending :=
  rfl
@[simp] theorem meterRelease_freeUsed (e : EntryIx) (n : Nat) (s : State) : (meterRelease e n s).freeUsed = s.freeUsed :=
  rfl
@[simp] theorem recordFlight_powered (d : Descriptor) (s : State) : (recordFlight d s).powered = s.powered := rfl
@[simp] theorem recordFlight_up (d : Descriptor) (s : State) : (recordFlight d s).up = s.up := rfl
@[simp] theorem recordFlight_dp (d : Descriptor) (s : State) : (recordFlight d s).dp = s.dp := rfl
@[simp] theorem recordFlight_rmu (d : Descriptor) (s : State) : (recordFlight d s).rmu = s.rmu := rfl
@[simp] theorem recordFlight_hs (d : Descriptor) (s : State) : (recordFlight d s).hs = s.hs := rfl
@[simp] theorem recordFlight_gw (d : Descriptor) (s : State) : (recordFlight d s).gw = s.gw := rfl
@[simp] theorem recordFlight_ce (d : Descriptor) (s : State) : (recordFlight d s).ce = s.ce := rfl
@[simp] theorem recordFlight_mu (d : Descriptor) (s : State) : (recordFlight d s).mu = s.mu := rfl
@[simp] theorem recordFlight_clu (d : Descriptor) (s : State) : (recordFlight d s).clu = s.clu := rfl
@[simp] theorem recordFlight_mp (d : Descriptor) (s : State) : (recordFlight d s).mp = s.mp := rfl
@[simp] theorem recordFlight_pending (d : Descriptor) (s : State) : (recordFlight d s).pending = s.pending := rfl
@[simp] theorem recordFlight_freeUsed (d : Descriptor) (s : State) : (recordFlight d s).freeUsed = s.freeUsed := rfl
@[simp] theorem grantRelease_powered (l : LaneName) (d : Descriptor) (s : State) : (grantRelease l d s).powered = s.powered :=
  rfl
@[simp] theorem grantRelease_up (l : LaneName) (d : Descriptor) (s : State) : (grantRelease l d s).up = s.up := rfl
@[simp] theorem grantRelease_dp (l : LaneName) (d : Descriptor) (s : State) : (grantRelease l d s).dp = s.dp := rfl
@[simp] theorem grantRelease_rmu (l : LaneName) (d : Descriptor) (s : State) : (grantRelease l d s).rmu = s.rmu := rfl
@[simp] theorem grantRelease_hs (l : LaneName) (d : Descriptor) (s : State) : (grantRelease l d s).hs = s.hs := rfl
@[simp] theorem grantRelease_ce (l : LaneName) (d : Descriptor) (s : State) : (grantRelease l d s).ce = s.ce := rfl
@[simp] theorem grantRelease_fu (l : LaneName) (d : Descriptor) (s : State) : (grantRelease l d s).fu = s.fu := rfl
@[simp] theorem grantRelease_mu (l : LaneName) (d : Descriptor) (s : State) : (grantRelease l d s).mu = s.mu := rfl
@[simp] theorem grantRelease_clu (l : LaneName) (d : Descriptor) (s : State) : (grantRelease l d s).clu = s.clu := rfl
@[simp] theorem grantRelease_mp (l : LaneName) (d : Descriptor) (s : State) : (grantRelease l d s).mp = s.mp := rfl
@[simp] theorem grantRelease_pending (l : LaneName) (d : Descriptor) (s : State) : (grantRelease l d s).pending = s.pending :=
  rfl
@[simp] theorem grantRelease_freeUsed (l : LaneName) (d : Descriptor) (s : State) : (grantRelease l d s).freeUsed = s.freeUsed :=
  rfl
@[simp] theorem releaseDescriptor_powered (d : Descriptor) (s : State) : (releaseDescriptor d s).powered = s.powered := by
  simp [releaseDescriptor]
@[simp] theorem releaseDescriptor_up (d : Descriptor) (s : State) : (releaseDescriptor d s).up = s.up := by
  simp [releaseDescriptor]
@[simp] theorem releaseDescriptor_dp (d : Descriptor) (s : State) : (releaseDescriptor d s).dp = s.dp := by
  simp [releaseDescriptor]
@[simp] theorem releaseDescriptor_rmu (d : Descriptor) (s : State) : (releaseDescriptor d s).rmu = s.rmu := by
  simp [releaseDescriptor]
@[simp] theorem releaseDescriptor_gw (d : Descriptor) (s : State) : (releaseDescriptor d s).gw = s.gw := by
  simp [releaseDescriptor]
@[simp] theorem releaseDescriptor_ce (d : Descriptor) (s : State) : (releaseDescriptor d s).ce = s.ce := by
  simp [releaseDescriptor]
@[simp] theorem releaseDescriptor_fu (d : Descriptor) (s : State) : (releaseDescriptor d s).fu = s.fu := by
  simp [releaseDescriptor]
@[simp] theorem releaseDescriptor_mu (d : Descriptor) (s : State) : (releaseDescriptor d s).mu = s.mu := by
  simp [releaseDescriptor]
@[simp] theorem releaseDescriptor_clu (d : Descriptor) (s : State) : (releaseDescriptor d s).clu = s.clu := by
  simp [releaseDescriptor]
@[simp] theorem releaseDescriptor_pending (d : Descriptor) (s : State) : (releaseDescriptor d s).pending = s.pending := by
  simp [releaseDescriptor]
@[simp] theorem releaseDescriptor_freeUsed (d : Descriptor) (s : State) : (releaseDescriptor d s).freeUsed = s.freeUsed := by
  simp [releaseDescriptor]
@[simp] theorem release_powered (l : LaneName) (d : Descriptor) (s : State) : (release l d s).powered = s.powered := by
  unfold release; split <;> simp
@[simp] theorem release_up (l : LaneName) (d : Descriptor) (s : State) : (release l d s).up = s.up := by
  unfold release; split <;> simp
@[simp] theorem release_dp (l : LaneName) (d : Descriptor) (s : State) : (release l d s).dp = s.dp := by
  unfold release; split <;> simp
@[simp] theorem release_rmu (l : LaneName) (d : Descriptor) (s : State) : (release l d s).rmu = s.rmu := by
  unfold release; split <;> simp
@[simp] theorem release_clu (l : LaneName) (d : Descriptor) (s : State) : (release l d s).clu = s.clu := by
  unfold release; split <;> simp
@[simp] theorem release_pending (l : LaneName) (d : Descriptor) (s : State) : (release l d s).pending = s.pending := by
  unfold release; split <;> simp
@[simp] theorem release_freeUsed (l : LaneName) (d : Descriptor) (s : State) : (release l d s).freeUsed = s.freeUsed := by
  unfold release; split <;> simp
@[simp] theorem visitFrom_powered (l : LaneName) (x : SearchPlace) (s : State) : (visitFrom l x s).powered = s.powered := by
  unfold visitFrom; (repeat' split) <;> simp
@[simp] theorem visitFrom_up (l : LaneName) (x : SearchPlace) (s : State) : (visitFrom l x s).up = s.up := by
  unfold visitFrom; (repeat' split) <;> simp
@[simp] theorem visitFrom_dp (l : LaneName) (x : SearchPlace) (s : State) : (visitFrom l x s).dp = s.dp := by
  unfold visitFrom; (repeat' split) <;> simp
@[simp] theorem visitFrom_rmu (l : LaneName) (x : SearchPlace) (s : State) : (visitFrom l x s).rmu = s.rmu := by
  unfold visitFrom; (repeat' split) <;> simp
@[simp] theorem visitFrom_clu (l : LaneName) (x : SearchPlace) (s : State) : (visitFrom l x s).clu = s.clu := by
  unfold visitFrom; (repeat' split) <;> simp
@[simp] theorem visitFrom_pending (l : LaneName) (x : SearchPlace) (s : State) : (visitFrom l x s).pending = s.pending := by
  unfold visitFrom; (repeat' split) <;> simp
@[simp] theorem visitFrom_freeUsed (l : LaneName) (x : SearchPlace) (s : State) : (visitFrom l x s).freeUsed = s.freeUsed := by
  unfold visitFrom; (repeat' split) <;> simp
@[simp] theorem visit_powered (l : LaneName) (c : SvcClass) (s : State) : (visit l c s).powered = s.powered := by
  simp [visit]
@[simp] theorem visit_up (l : LaneName) (c : SvcClass) (s : State) : (visit l c s).up = s.up := by
  simp [visit]
@[simp] theorem visit_dp (l : LaneName) (c : SvcClass) (s : State) : (visit l c s).dp = s.dp := by
  simp [visit]
@[simp] theorem visit_rmu (l : LaneName) (c : SvcClass) (s : State) : (visit l c s).rmu = s.rmu := by
  simp [visit]
@[simp] theorem visit_clu (l : LaneName) (c : SvcClass) (s : State) : (visit l c s).clu = s.clu := by
  simp [visit]
@[simp] theorem visit_pending (l : LaneName) (c : SvcClass) (s : State) : (visit l c s).pending = s.pending := by
  simp [visit]
@[simp] theorem visit_freeUsed (l : LaneName) (c : SvcClass) (s : State) : (visit l c s).freeUsed = s.freeUsed := by
  simp [visit]
@[simp] theorem visitPhase_powered (l : LaneName) (s : State) : (visitPhase l s).powered = s.powered := by
  unfold visitPhase; split <;> simp
@[simp] theorem visitPhase_up (l : LaneName) (s : State) : (visitPhase l s).up = s.up := by
  unfold visitPhase; split <;> simp
@[simp] theorem visitPhase_dp (l : LaneName) (s : State) : (visitPhase l s).dp = s.dp := by
  unfold visitPhase; split <;> simp
@[simp] theorem visitPhase_rmu (l : LaneName) (s : State) : (visitPhase l s).rmu = s.rmu := by
  unfold visitPhase; split <;> simp
@[simp] theorem visitPhase_clu (l : LaneName) (s : State) : (visitPhase l s).clu = s.clu := by
  unfold visitPhase; split <;> simp
@[simp] theorem visitPhase_pending (l : LaneName) (s : State) : (visitPhase l s).pending = s.pending := by
  unfold visitPhase; split <;> simp
@[simp] theorem visitPhase_freeUsed (l : LaneName) (s : State) : (visitPhase l s).freeUsed = s.freeUsed := by
  unfold visitPhase; split <;> simp
@[simp] theorem arriveAndVisit_powered (l : LaneName) (s : State) : (arriveAndVisit l s).powered = s.powered := by
  unfold arriveAndVisit; dsimp only; (repeat' split) <;> simp
@[simp] theorem arriveAndVisit_up (l : LaneName) (s : State) : (arriveAndVisit l s).up = s.up := by
  unfold arriveAndVisit; dsimp only; (repeat' split) <;> simp
@[simp] theorem arriveAndVisit_dp (l : LaneName) (s : State) : (arriveAndVisit l s).dp = s.dp := by
  unfold arriveAndVisit; dsimp only; (repeat' split) <;> simp
@[simp] theorem arriveAndVisit_rmu (l : LaneName) (s : State) : (arriveAndVisit l s).rmu = s.rmu := by
  unfold arriveAndVisit; dsimp only; (repeat' split) <;> simp
@[simp] theorem arriveAndVisit_clu (l : LaneName) (s : State) : (arriveAndVisit l s).clu = s.clu := by
  unfold arriveAndVisit; dsimp only; (repeat' split) <;> simp
@[simp] theorem arriveAndVisit_pending (l : LaneName) (s : State) : (arriveAndVisit l s).pending = s.pending := by
  unfold arriveAndVisit; dsimp only; (repeat' split) <;> simp
@[simp] theorem arriveAndVisit_freeUsed (l : LaneName) (s : State) : (arriveAndVisit l s).freeUsed = s.freeUsed := by
  unfold arriveAndVisit; dsimp only; (repeat' split) <;> simp
@[simp] theorem slotVisit_powered (l : LaneName) (s : State) : (slotVisit l s).powered = s.powered := by
  unfold slotVisit; (repeat' split) <;> simp
@[simp] theorem slotVisit_up (l : LaneName) (s : State) : (slotVisit l s).up = s.up := by
  unfold slotVisit; (repeat' split) <;> simp
@[simp] theorem slotVisit_dp (l : LaneName) (s : State) : (slotVisit l s).dp = s.dp := by
  unfold slotVisit; (repeat' split) <;> simp
@[simp] theorem slotVisit_rmu (l : LaneName) (s : State) : (slotVisit l s).rmu = s.rmu := by
  unfold slotVisit; (repeat' split) <;> simp
@[simp] theorem slotVisit_clu (l : LaneName) (s : State) : (slotVisit l s).clu = s.clu := by
  unfold slotVisit; (repeat' split) <;> simp
@[simp] theorem slotVisit_pending (l : LaneName) (s : State) : (slotVisit l s).pending = s.pending := by
  unfold slotVisit; (repeat' split) <;> simp
@[simp] theorem slotVisit_freeUsed (l : LaneName) (s : State) : (slotVisit l s).freeUsed = s.freeUsed := by
  unfold slotVisit; (repeat' split) <;> simp
@[simp] theorem slotPairStep_powered (s : State) : (slotPairStep s).powered = s.powered := by
  unfold slotPairStep; (repeat' split) <;> simp
@[simp] theorem slotPairStep_up (s : State) : (slotPairStep s).up = s.up := by
  unfold slotPairStep; (repeat' split) <;> simp
@[simp] theorem slotPairStep_dp (s : State) : (slotPairStep s).dp = s.dp := by
  unfold slotPairStep; (repeat' split) <;> simp
@[simp] theorem slotPairStep_rmu (s : State) : (slotPairStep s).rmu = s.rmu := by
  unfold slotPairStep; (repeat' split) <;> simp
@[simp] theorem slotPairStep_hs (s : State) : (slotPairStep s).hs = s.hs := by
  unfold slotPairStep; (repeat' split) <;> simp
@[simp] theorem slotPairStep_ce (s : State) : (slotPairStep s).ce = s.ce := by
  unfold slotPairStep; (repeat' split) <;> simp
@[simp] theorem slotPairStep_fu (s : State) : (slotPairStep s).fu = s.fu := by
  unfold slotPairStep; (repeat' split) <;> simp
@[simp] theorem slotPairStep_mu (s : State) : (slotPairStep s).mu = s.mu := by
  unfold slotPairStep; (repeat' split) <;> simp
@[simp] theorem slotPairStep_clu (s : State) : (slotPairStep s).clu = s.clu := by
  unfold slotPairStep; (repeat' split) <;> simp
@[simp] theorem slotPairStep_mp (s : State) : (slotPairStep s).mp = s.mp := by
  unfold slotPairStep; (repeat' split) <;> simp
@[simp] theorem slotPairStep_pending (s : State) : (slotPairStep s).pending = s.pending := by
  unfold slotPairStep; (repeat' split) <;> simp
@[simp] theorem slotPairStep_freeUsed (s : State) : (slotPairStep s).freeUsed = s.freeUsed := by
  unfold slotPairStep; (repeat' split) <;> simp
@[simp] theorem drainOnce_powered (s : State) : (drainOnce s).powered = s.powered := by
  unfold drainOnce; (repeat' split) <;> simp
@[simp] theorem drainOnce_up (s : State) : (drainOnce s).up = s.up := by
  unfold drainOnce; (repeat' split) <;> simp
@[simp] theorem drainOnce_dp (s : State) : (drainOnce s).dp = s.dp := by
  unfold drainOnce; (repeat' split) <;> simp
@[simp] theorem drainOnce_rmu (s : State) : (drainOnce s).rmu = s.rmu := by
  unfold drainOnce; (repeat' split) <;> simp
@[simp] theorem drainOnce_clu (s : State) : (drainOnce s).clu = s.clu := by
  unfold drainOnce; (repeat' split) <;> simp
@[simp] theorem drainOnce_pending (s : State) : (drainOnce s).pending = s.pending := by
  unfold drainOnce; (repeat' split) <;> simp
@[simp] theorem drainOnce_freeUsed (s : State) : (drainOnce s).freeUsed = s.freeUsed := by
  unfold drainOnce; (repeat' split) <;> simp
@[simp] theorem drainSearch_powered (s : State) : (drainSearch s).powered = s.powered := by
  unfold drainSearch; split <;> simp
@[simp] theorem drainSearch_up (s : State) : (drainSearch s).up = s.up := by
  unfold drainSearch; split <;> simp
@[simp] theorem drainSearch_dp (s : State) : (drainSearch s).dp = s.dp := by
  unfold drainSearch; split <;> simp
@[simp] theorem drainSearch_rmu (s : State) : (drainSearch s).rmu = s.rmu := by
  unfold drainSearch; split <;> simp
@[simp] theorem drainSearch_clu (s : State) : (drainSearch s).clu = s.clu := by
  unfold drainSearch; split <;> simp
@[simp] theorem drainSearch_pending (s : State) : (drainSearch s).pending = s.pending := by
  unfold drainSearch; split <;> simp
@[simp] theorem drainSearch_freeUsed (s : State) : (drainSearch s).freeUsed = s.freeUsed := by
  unfold drainSearch; split <;> simp
@[simp] theorem setDownReception_powered (r : DownReception) (s : State) : (setDownReception r s).powered = s.powered :=
  rfl
@[simp] theorem setDownReception_up (r : DownReception) (s : State) : (setDownReception r s).up = s.up := rfl
@[simp] theorem setDownReception_rmu (r : DownReception) (s : State) : (setDownReception r s).rmu = s.rmu := rfl
@[simp] theorem setDownReception_hs (r : DownReception) (s : State) : (setDownReception r s).hs = s.hs := rfl
@[simp] theorem setDownReception_gw (r : DownReception) (s : State) : (setDownReception r s).gw = s.gw := rfl
@[simp] theorem setDownReception_ce (r : DownReception) (s : State) : (setDownReception r s).ce = s.ce := rfl
@[simp] theorem setDownReception_fu (r : DownReception) (s : State) : (setDownReception r s).fu = s.fu := rfl
@[simp] theorem setDownReception_mu (r : DownReception) (s : State) : (setDownReception r s).mu = s.mu := rfl
@[simp] theorem setDownReception_clu (r : DownReception) (s : State) : (setDownReception r s).clu = s.clu := rfl
@[simp] theorem setDownReception_mp (r : DownReception) (s : State) : (setDownReception r s).mp = s.mp := rfl
@[simp] theorem setDownReception_pending (r : DownReception) (s : State) : (setDownReception r s).pending = s.pending :=
  rfl
@[simp] theorem setDownReception_freeUsed (r : DownReception) (s : State) : (setDownReception r s).freeUsed = s.freeUsed :=
  rfl
@[simp] theorem discardMalformed_powered (n m : Nat) (r : DownReception) (s : State) : (discardMalformed n m r s).powered = s.powered := by
  simp [discardMalformed]
@[simp] theorem discardMalformed_up (n m : Nat) (r : DownReception) (s : State) : (discardMalformed n m r s).up = s.up := by
  simp [discardMalformed]
@[simp] theorem discardMalformed_rmu (n m : Nat) (r : DownReception) (s : State) : (discardMalformed n m r s).rmu = s.rmu := by
  simp [discardMalformed]
@[simp] theorem discardMalformed_hs (n m : Nat) (r : DownReception) (s : State) : (discardMalformed n m r s).hs = s.hs := by
  simp [discardMalformed]
@[simp] theorem discardMalformed_gw (n m : Nat) (r : DownReception) (s : State) : (discardMalformed n m r s).gw = s.gw := by
  simp [discardMalformed]
@[simp] theorem discardMalformed_ce (n m : Nat) (r : DownReception) (s : State) : (discardMalformed n m r s).ce = s.ce := by
  simp [discardMalformed]
@[simp] theorem discardMalformed_fu (n m : Nat) (r : DownReception) (s : State) : (discardMalformed n m r s).fu = s.fu := by
  simp [discardMalformed]
@[simp] theorem discardMalformed_mu (n m : Nat) (r : DownReception) (s : State) : (discardMalformed n m r s).mu = s.mu := by
  simp [discardMalformed]
@[simp] theorem discardMalformed_clu (n m : Nat) (r : DownReception) (s : State) : (discardMalformed n m r s).clu = s.clu := by
  simp [discardMalformed]
@[simp] theorem discardMalformed_pending (n m : Nat) (r : DownReception) (s : State) : (discardMalformed n m r s).pending = s.pending := by
  simp [discardMalformed]
@[simp] theorem discardMalformed_freeUsed (n m : Nat) (r : DownReception) (s : State) : (discardMalformed n m r s).freeUsed = s.freeUsed := by
  simp [discardMalformed]
@[simp] theorem endResponse_powered (s : State) : (endResponse s).powered = s.powered := by
  unfold endResponse; split <;> simp
@[simp] theorem endResponse_up (s : State) : (endResponse s).up = s.up := by
  unfold endResponse; split <;> simp
@[simp] theorem endResponse_rmu (s : State) : (endResponse s).rmu = s.rmu := by
  unfold endResponse; split <;> simp
@[simp] theorem endResponse_hs (s : State) : (endResponse s).hs = s.hs := by
  unfold endResponse; split <;> simp
@[simp] theorem endResponse_gw (s : State) : (endResponse s).gw = s.gw := by
  unfold endResponse; split <;> simp
@[simp] theorem endResponse_ce (s : State) : (endResponse s).ce = s.ce := by
  unfold endResponse; split <;> simp
@[simp] theorem endResponse_fu (s : State) : (endResponse s).fu = s.fu := by
  unfold endResponse; split <;> simp
@[simp] theorem endResponse_mu (s : State) : (endResponse s).mu = s.mu := by
  unfold endResponse; split <;> simp
@[simp] theorem endResponse_clu (s : State) : (endResponse s).clu = s.clu := by
  unfold endResponse; split <;> simp
@[simp] theorem endResponse_pending (s : State) : (endResponse s).pending = s.pending := by
  unfold endResponse; split <;> simp
@[simp] theorem endResponse_freeUsed (s : State) : (endResponse s).freeUsed = s.freeUsed := by
  unfold endResponse; split <;> simp
@[simp] theorem responseHeaderArrives_powered (h : Header) (s : State) : (responseHeaderArrives h s).powered = s.powered := by
  unfold responseHeaderArrives; dsimp only; (repeat' split) <;> simp
@[simp] theorem responseHeaderArrives_up (h : Header) (s : State) : (responseHeaderArrives h s).up = s.up := by
  unfold responseHeaderArrives; dsimp only; (repeat' split) <;> simp
@[simp] theorem responseHeaderArrives_rmu (h : Header) (s : State) : (responseHeaderArrives h s).rmu = s.rmu := by
  unfold responseHeaderArrives; dsimp only; (repeat' split) <;> simp
@[simp] theorem responseHeaderArrives_hs (h : Header) (s : State) : (responseHeaderArrives h s).hs = s.hs := by
  unfold responseHeaderArrives; dsimp only; (repeat' split) <;> simp
@[simp] theorem responseHeaderArrives_ce (h : Header) (s : State) : (responseHeaderArrives h s).ce = s.ce := by
  unfold responseHeaderArrives; dsimp only; (repeat' split) <;> simp
@[simp] theorem responseHeaderArrives_mu (h : Header) (s : State) : (responseHeaderArrives h s).mu = s.mu := by
  unfold responseHeaderArrives; dsimp only; (repeat' split) <;> simp
@[simp] theorem responseHeaderArrives_clu (h : Header) (s : State) : (responseHeaderArrives h s).clu = s.clu := by
  unfold responseHeaderArrives; dsimp only; (repeat' split) <;> simp
@[simp] theorem responseHeaderArrives_pending (h : Header) (s : State) : (responseHeaderArrives h s).pending = s.pending := by
  unfold responseHeaderArrives; dsimp only; (repeat' split) <;> simp
@[simp] theorem responseHeaderArrives_freeUsed (h : Header) (s : State) : (responseHeaderArrives h s).freeUsed = s.freeUsed := by
  unfold responseHeaderArrives; dsimp only; (repeat' split) <;> simp
@[simp] theorem extendResponse_powered (r : Response) (b : Beat) (s : State) : (extendResponse r b s).powered = s.powered := by
  unfold extendResponse; dsimp only; (repeat' split) <;> simp
@[simp] theorem extendResponse_up (r : Response) (b : Beat) (s : State) : (extendResponse r b s).up = s.up := by
  unfold extendResponse; dsimp only; (repeat' split) <;> simp
@[simp] theorem extendResponse_rmu (r : Response) (b : Beat) (s : State) : (extendResponse r b s).rmu = s.rmu := by
  unfold extendResponse; dsimp only; (repeat' split) <;> simp
@[simp] theorem extendResponse_hs (r : Response) (b : Beat) (s : State) : (extendResponse r b s).hs = s.hs := by
  unfold extendResponse; dsimp only; (repeat' split) <;> simp
@[simp] theorem extendResponse_ce (r : Response) (b : Beat) (s : State) : (extendResponse r b s).ce = s.ce := by
  unfold extendResponse; dsimp only; (repeat' split) <;> simp
@[simp] theorem extendResponse_mu (r : Response) (b : Beat) (s : State) : (extendResponse r b s).mu = s.mu := by
  unfold extendResponse; dsimp only; (repeat' split) <;> simp
@[simp] theorem extendResponse_clu (r : Response) (b : Beat) (s : State) : (extendResponse r b s).clu = s.clu := by
  unfold extendResponse; dsimp only; (repeat' split) <;> simp
@[simp] theorem extendResponse_pending (r : Response) (b : Beat) (s : State) : (extendResponse r b s).pending = s.pending := by
  unfold extendResponse; dsimp only; (repeat' split) <;> simp
@[simp] theorem extendResponse_freeUsed (r : Response) (b : Beat) (s : State) : (extendResponse r b s).freeUsed = s.freeUsed := by
  unfold extendResponse; dsimp only; (repeat' split) <;> simp
@[simp] theorem responseBeatArrives_powered (b : Beat) (s : State) : (responseBeatArrives b s).powered = s.powered := by
  unfold responseBeatArrives; dsimp only; (repeat' split) <;> simp
@[simp] theorem responseBeatArrives_up (b : Beat) (s : State) : (responseBeatArrives b s).up = s.up := by
  unfold responseBeatArrives; dsimp only; (repeat' split) <;> simp
@[simp] theorem responseBeatArrives_rmu (b : Beat) (s : State) : (responseBeatArrives b s).rmu = s.rmu := by
  unfold responseBeatArrives; dsimp only; (repeat' split) <;> simp
@[simp] theorem responseBeatArrives_hs (b : Beat) (s : State) : (responseBeatArrives b s).hs = s.hs := by
  unfold responseBeatArrives; dsimp only; (repeat' split) <;> simp
@[simp] theorem responseBeatArrives_ce (b : Beat) (s : State) : (responseBeatArrives b s).ce = s.ce := by
  unfold responseBeatArrives; dsimp only; (repeat' split) <;> simp
@[simp] theorem responseBeatArrives_mu (b : Beat) (s : State) : (responseBeatArrives b s).mu = s.mu := by
  unfold responseBeatArrives; dsimp only; (repeat' split) <;> simp
@[simp] theorem responseBeatArrives_clu (b : Beat) (s : State) : (responseBeatArrives b s).clu = s.clu := by
  unfold responseBeatArrives; dsimp only; (repeat' split) <;> simp
@[simp] theorem responseBeatArrives_pending (b : Beat) (s : State) : (responseBeatArrives b s).pending = s.pending := by
  unfold responseBeatArrives; dsimp only; (repeat' split) <;> simp
@[simp] theorem responseBeatArrives_freeUsed (b : Beat) (s : State) : (responseBeatArrives b s).freeUsed = s.freeUsed := by
  unfold responseBeatArrives; dsimp only; (repeat' split) <;> simp
@[simp] theorem responseMarkArrives_powered (s : State) : (responseMarkArrives s).powered = s.powered := by
  unfold responseMarkArrives; split <;> simp
@[simp] theorem responseMarkArrives_up (s : State) : (responseMarkArrives s).up = s.up := by
  unfold responseMarkArrives; split <;> simp
@[simp] theorem responseMarkArrives_dp (s : State) : (responseMarkArrives s).dp = s.dp := by
  unfold responseMarkArrives; split <;> simp
@[simp] theorem responseMarkArrives_rmu (s : State) : (responseMarkArrives s).rmu = s.rmu := by
  unfold responseMarkArrives; split <;> simp
@[simp] theorem responseMarkArrives_hs (s : State) : (responseMarkArrives s).hs = s.hs := by
  unfold responseMarkArrives; split <;> simp
@[simp] theorem responseMarkArrives_gw (s : State) : (responseMarkArrives s).gw = s.gw := by
  unfold responseMarkArrives; split <;> simp
@[simp] theorem responseMarkArrives_ce (s : State) : (responseMarkArrives s).ce = s.ce := by
  unfold responseMarkArrives; split <;> simp
@[simp] theorem responseMarkArrives_fu (s : State) : (responseMarkArrives s).fu = s.fu := by
  unfold responseMarkArrives; split <;> simp
@[simp] theorem responseMarkArrives_mu (s : State) : (responseMarkArrives s).mu = s.mu := by
  unfold responseMarkArrives; split <;> simp
@[simp] theorem responseMarkArrives_clu (s : State) : (responseMarkArrives s).clu = s.clu := by
  unfold responseMarkArrives; split <;> simp
@[simp] theorem responseMarkArrives_pending (s : State) : (responseMarkArrives s).pending = s.pending := by
  unfold responseMarkArrives; split <;> simp
@[simp] theorem responseMarkArrives_freeUsed (s : State) : (responseMarkArrives s).freeUsed = s.freeUsed := by
  unfold responseMarkArrives; split <;> simp
@[simp] theorem takeMemoryCredits_powered (n m : Nat) (s : State) : (takeMemoryCredits n m s).powered = s.powered :=
  rfl
@[simp] theorem takeMemoryCredits_up (n m : Nat) (s : State) : (takeMemoryCredits n m s).up = s.up := rfl
@[simp] theorem takeMemoryCredits_rmu (n m : Nat) (s : State) : (takeMemoryCredits n m s).rmu = s.rmu := rfl
@[simp] theorem takeMemoryCredits_hs (n m : Nat) (s : State) : (takeMemoryCredits n m s).hs = s.hs := rfl
@[simp] theorem takeMemoryCredits_gw (n m : Nat) (s : State) : (takeMemoryCredits n m s).gw = s.gw := rfl
@[simp] theorem takeMemoryCredits_ce (n m : Nat) (s : State) : (takeMemoryCredits n m s).ce = s.ce := rfl
@[simp] theorem takeMemoryCredits_fu (n m : Nat) (s : State) : (takeMemoryCredits n m s).fu = s.fu := rfl
@[simp] theorem takeMemoryCredits_mu (n m : Nat) (s : State) : (takeMemoryCredits n m s).mu = s.mu := rfl
@[simp] theorem takeMemoryCredits_clu (n m : Nat) (s : State) : (takeMemoryCredits n m s).clu = s.clu := rfl
@[simp] theorem takeMemoryCredits_mp (n m : Nat) (s : State) : (takeMemoryCredits n m s).mp = s.mp := rfl
@[simp] theorem takeMemoryCredits_pending (n m : Nat) (s : State) : (takeMemoryCredits n m s).pending = s.pending :=
  rfl
@[simp] theorem takeMemoryCredits_freeUsed (n m : Nat) (s : State) : (takeMemoryCredits n m s).freeUsed = s.freeUsed :=
  rfl
@[simp] theorem drainTakeOver_powered (s : State) : (drainTakeOver s).powered = s.powered := by
  unfold drainTakeOver; split <;> simp
@[simp] theorem drainTakeOver_up (s : State) : (drainTakeOver s).up = s.up := by
  unfold drainTakeOver; split <;> simp
@[simp] theorem drainTakeOver_dp (s : State) : (drainTakeOver s).dp = s.dp := by
  unfold drainTakeOver; split <;> simp
@[simp] theorem drainTakeOver_rmu (s : State) : (drainTakeOver s).rmu = s.rmu := by
  unfold drainTakeOver; split <;> simp
@[simp] theorem drainTakeOver_hs (s : State) : (drainTakeOver s).hs = s.hs := by
  unfold drainTakeOver; split <;> simp
@[simp] theorem drainTakeOver_ce (s : State) : (drainTakeOver s).ce = s.ce := by
  unfold drainTakeOver; split <;> simp
@[simp] theorem drainTakeOver_fu (s : State) : (drainTakeOver s).fu = s.fu := by
  unfold drainTakeOver; split <;> simp
@[simp] theorem drainTakeOver_mu (s : State) : (drainTakeOver s).mu = s.mu := by
  unfold drainTakeOver; split <;> simp
@[simp] theorem drainTakeOver_clu (s : State) : (drainTakeOver s).clu = s.clu := by
  unfold drainTakeOver; split <;> simp
@[simp] theorem drainTakeOver_mp (s : State) : (drainTakeOver s).mp = s.mp := by
  unfold drainTakeOver; split <;> simp
@[simp] theorem drainTakeOver_pending (s : State) : (drainTakeOver s).pending = s.pending := by
  unfold drainTakeOver; split <;> simp
@[simp] theorem drainTakeOver_freeUsed (s : State) : (drainTakeOver s).freeUsed = s.freeUsed := by
  unfold drainTakeOver; split <;> simp
@[simp] theorem laneBegun_powered (l : LaneName) (s : State) : (laneBegun l s).powered = s.powered := by
  unfold laneBegun; (repeat' split) <;> simp
@[simp] theorem laneBegun_up (l : LaneName) (s : State) : (laneBegun l s).up = s.up := by
  unfold laneBegun; (repeat' split) <;> simp
@[simp] theorem laneBegun_dp (l : LaneName) (s : State) : (laneBegun l s).dp = s.dp := by
  unfold laneBegun; (repeat' split) <;> simp
@[simp] theorem laneBegun_rmu (l : LaneName) (s : State) : (laneBegun l s).rmu = s.rmu := by
  unfold laneBegun; (repeat' split) <;> simp
@[simp] theorem laneBegun_hs (l : LaneName) (s : State) : (laneBegun l s).hs = s.hs := by
  unfold laneBegun; (repeat' split) <;> simp
@[simp] theorem laneBegun_ce (l : LaneName) (s : State) : (laneBegun l s).ce = s.ce := by
  unfold laneBegun; (repeat' split) <;> simp
@[simp] theorem laneBegun_fu (l : LaneName) (s : State) : (laneBegun l s).fu = s.fu := by
  unfold laneBegun; (repeat' split) <;> simp
@[simp] theorem laneBegun_mu (l : LaneName) (s : State) : (laneBegun l s).mu = s.mu := by
  unfold laneBegun; (repeat' split) <;> simp
@[simp] theorem laneBegun_clu (l : LaneName) (s : State) : (laneBegun l s).clu = s.clu := by
  unfold laneBegun; (repeat' split) <;> simp
@[simp] theorem laneBegun_mp (l : LaneName) (s : State) : (laneBegun l s).mp = s.mp := by
  unfold laneBegun; (repeat' split) <;> simp
@[simp] theorem laneBegun_pending (l : LaneName) (s : State) : (laneBegun l s).pending = s.pending := by
  unfold laneBegun; (repeat' split) <;> simp
@[simp] theorem laneBegun_freeUsed (l : LaneName) (s : State) : (laneBegun l s).freeUsed = s.freeUsed := by
  unfold laneBegun; (repeat' split) <;> simp
@[simp] theorem putPacket_powered (g : Grant) (s : State) : (putPacket g s).powered = s.powered := by
  unfold putPacket; (repeat' split) <;> simp
@[simp] theorem putPacket_up (g : Grant) (s : State) : (putPacket g s).up = s.up := by
  unfold putPacket; (repeat' split) <;> simp
@[simp] theorem putPacket_rmu (g : Grant) (s : State) : (putPacket g s).rmu = s.rmu := by
  unfold putPacket; (repeat' split) <;> simp
@[simp] theorem putPacket_gw (g : Grant) (s : State) : (putPacket g s).gw = s.gw := by
  unfold putPacket; (repeat' split) <;> simp
@[simp] theorem putPacket_ce (g : Grant) (s : State) : (putPacket g s).ce = s.ce := by
  unfold putPacket; (repeat' split) <;> simp
@[simp] theorem putPacket_mu (g : Grant) (s : State) : (putPacket g s).mu = s.mu := by
  unfold putPacket; (repeat' split) <;> simp
@[simp] theorem putPacket_clu (g : Grant) (s : State) : (putPacket g s).clu = s.clu := by
  unfold putPacket; (repeat' split) <;> simp
@[simp] theorem putPacket_pending (g : Grant) (s : State) : (putPacket g s).pending = s.pending := by
  unfold putPacket; (repeat' split) <;> simp
@[simp] theorem putPacket_freeUsed (g : Grant) (s : State) : (putPacket g s).freeUsed = s.freeUsed := by
  unfold putPacket; (repeat' split) <;> simp
@[simp] theorem packetBegin_powered (s : State) : (packetBegin s).powered = s.powered := by
  unfold packetBegin; split <;> simp
@[simp] theorem packetBegin_up (s : State) : (packetBegin s).up = s.up := by
  unfold packetBegin; split <;> simp
@[simp] theorem packetBegin_rmu (s : State) : (packetBegin s).rmu = s.rmu := by
  unfold packetBegin; split <;> simp
@[simp] theorem packetBegin_ce (s : State) : (packetBegin s).ce = s.ce := by
  unfold packetBegin; split <;> simp
@[simp] theorem packetBegin_mu (s : State) : (packetBegin s).mu = s.mu := by
  unfold packetBegin; split <;> simp
@[simp] theorem packetBegin_clu (s : State) : (packetBegin s).clu = s.clu := by
  unfold packetBegin; split <;> simp
@[simp] theorem packetBegin_pending (s : State) : (packetBegin s).pending = s.pending := by
  unfold packetBegin; split <;> simp
@[simp] theorem packetBegin_freeUsed (s : State) : (packetBegin s).freeUsed = s.freeUsed := by
  unfold packetBegin; split <;> simp
@[simp] theorem sendBeat_powered (p : Sending) (s : State) : (sendBeat p s).powered = s.powered := rfl
@[simp] theorem sendBeat_up (p : Sending) (s : State) : (sendBeat p s).up = s.up := rfl
@[simp] theorem sendBeat_rmu (p : Sending) (s : State) : (sendBeat p s).rmu = s.rmu := rfl
@[simp] theorem sendBeat_hs (p : Sending) (s : State) : (sendBeat p s).hs = s.hs := rfl
@[simp] theorem sendBeat_gw (p : Sending) (s : State) : (sendBeat p s).gw = s.gw := rfl
@[simp] theorem sendBeat_ce (p : Sending) (s : State) : (sendBeat p s).ce = s.ce := rfl
@[simp] theorem sendBeat_fu (p : Sending) (s : State) : (sendBeat p s).fu = s.fu := rfl
@[simp] theorem sendBeat_mu (p : Sending) (s : State) : (sendBeat p s).mu = s.mu := rfl
@[simp] theorem sendBeat_clu (p : Sending) (s : State) : (sendBeat p s).clu = s.clu := rfl
@[simp] theorem sendBeat_mp (p : Sending) (s : State) : (sendBeat p s).mp = s.mp := rfl
@[simp] theorem sendBeat_pending (p : Sending) (s : State) : (sendBeat p s).pending = s.pending := rfl
@[simp] theorem sendBeat_freeUsed (p : Sending) (s : State) : (sendBeat p s).freeUsed = s.freeUsed := rfl
@[simp] theorem sendEndMark_powered (p : Sending) (s : State) : (sendEndMark p s).powered = s.powered := by
  simp [sendEndMark]
@[simp] theorem sendEndMark_up (p : Sending) (s : State) : (sendEndMark p s).up = s.up := by simp [sendEndMark]
@[simp] theorem sendEndMark_rmu (p : Sending) (s : State) : (sendEndMark p s).rmu = s.rmu := by simp [sendEndMark]
@[simp] theorem sendEndMark_gw (p : Sending) (s : State) : (sendEndMark p s).gw = s.gw := by simp [sendEndMark]
@[simp] theorem sendEndMark_ce (p : Sending) (s : State) : (sendEndMark p s).ce = s.ce := by simp [sendEndMark]
@[simp] theorem sendEndMark_mu (p : Sending) (s : State) : (sendEndMark p s).mu = s.mu := by simp [sendEndMark]
@[simp] theorem sendEndMark_clu (p : Sending) (s : State) : (sendEndMark p s).clu = s.clu := by simp [sendEndMark]
@[simp] theorem sendEndMark_pending (p : Sending) (s : State) : (sendEndMark p s).pending = s.pending := by
  simp [sendEndMark]
@[simp] theorem sendEndMark_freeUsed (p : Sending) (s : State) : (sendEndMark p s).freeUsed = s.freeUsed := by
  simp [sendEndMark]
@[simp] theorem unitSend_powered (s : State) : (unitSend s).powered = s.powered := by
  unfold unitSend; (repeat' split) <;> simp
@[simp] theorem unitSend_up (s : State) : (unitSend s).up = s.up := by
  unfold unitSend; (repeat' split) <;> simp
@[simp] theorem unitSend_rmu (s : State) : (unitSend s).rmu = s.rmu := by
  unfold unitSend; (repeat' split) <;> simp
@[simp] theorem unitSend_gw (s : State) : (unitSend s).gw = s.gw := by
  unfold unitSend; (repeat' split) <;> simp
@[simp] theorem unitSend_ce (s : State) : (unitSend s).ce = s.ce := by
  unfold unitSend; (repeat' split) <;> simp
@[simp] theorem unitSend_mu (s : State) : (unitSend s).mu = s.mu := by
  unfold unitSend; (repeat' split) <;> simp
@[simp] theorem unitSend_clu (s : State) : (unitSend s).clu = s.clu := by
  unfold unitSend; (repeat' split) <;> simp
@[simp] theorem unitSend_pending (s : State) : (unitSend s).pending = s.pending := by
  unfold unitSend; (repeat' split) <;> simp
@[simp] theorem unitSend_freeUsed (s : State) : (unitSend s).freeUsed = s.freeUsed := by
  unfold unitSend; (repeat' split) <;> simp
@[simp] theorem underrunWrite_powered (p : Sending) (s : State) : (underrunWrite p s).powered = s.powered := by
  unfold underrunWrite; dsimp only; (repeat' split) <;> simp
@[simp] theorem underrunWrite_rmu (p : Sending) (s : State) : (underrunWrite p s).rmu = s.rmu := by
  unfold underrunWrite; dsimp only; (repeat' split) <;> simp
@[simp] theorem underrunWrite_ce (p : Sending) (s : State) : (underrunWrite p s).ce = s.ce := by
  unfold underrunWrite; dsimp only; (repeat' split) <;> simp
@[simp] theorem underrunWrite_mu (p : Sending) (s : State) : (underrunWrite p s).mu = s.mu := by
  unfold underrunWrite; dsimp only; (repeat' split) <;> simp
@[simp] theorem underrunWrite_clu (p : Sending) (s : State) : (underrunWrite p s).clu = s.clu := by
  unfold underrunWrite; dsimp only; (repeat' split) <;> simp
@[simp] theorem underrunWrite_pending (p : Sending) (s : State) : (underrunWrite p s).pending = s.pending := by
  unfold underrunWrite; dsimp only; (repeat' split) <;> simp
@[simp] theorem underrunWrite_freeUsed (p : Sending) (s : State) : (underrunWrite p s).freeUsed = s.freeUsed := by
  unfold underrunWrite; dsimp only; (repeat' split) <;> simp
@[simp] theorem underrunExpires_powered (s : State) : (underrunExpires s).powered = s.powered := by
  unfold underrunExpires; (repeat' split) <;> simp
@[simp] theorem underrunExpires_rmu (s : State) : (underrunExpires s).rmu = s.rmu := by
  unfold underrunExpires; (repeat' split) <;> simp
@[simp] theorem underrunExpires_ce (s : State) : (underrunExpires s).ce = s.ce := by
  unfold underrunExpires; (repeat' split) <;> simp
@[simp] theorem underrunExpires_mu (s : State) : (underrunExpires s).mu = s.mu := by
  unfold underrunExpires; (repeat' split) <;> simp
@[simp] theorem underrunExpires_clu (s : State) : (underrunExpires s).clu = s.clu := by
  unfold underrunExpires; (repeat' split) <;> simp
@[simp] theorem underrunExpires_pending (s : State) : (underrunExpires s).pending = s.pending := by
  unfold underrunExpires; (repeat' split) <;> simp
@[simp] theorem underrunExpires_freeUsed (s : State) : (underrunExpires s).freeUsed = s.freeUsed := by
  unfold underrunExpires; (repeat' split) <;> simp
@[simp] theorem timerExpires_powered (r : ReqId) (t : Tag) (s : State) : (timerExpires r t s).powered = s.powered := by
  unfold timerExpires; (repeat' split) <;> simp
@[simp] theorem timerExpires_dp (r : ReqId) (t : Tag) (s : State) : (timerExpires r t s).dp = s.dp := by
  unfold timerExpires; (repeat' split) <;> simp
@[simp] theorem timerExpires_rmu (r : ReqId) (t : Tag) (s : State) : (timerExpires r t s).rmu = s.rmu := by
  unfold timerExpires; (repeat' split) <;> simp
@[simp] theorem timerExpires_hs (r : ReqId) (t : Tag) (s : State) : (timerExpires r t s).hs = s.hs := by
  unfold timerExpires; (repeat' split) <;> simp
@[simp] theorem timerExpires_ce (r : ReqId) (t : Tag) (s : State) : (timerExpires r t s).ce = s.ce := by
  unfold timerExpires; (repeat' split) <;> simp
@[simp] theorem timerExpires_mu (r : ReqId) (t : Tag) (s : State) : (timerExpires r t s).mu = s.mu := by
  unfold timerExpires; (repeat' split) <;> simp
@[simp] theorem timerExpires_clu (r : ReqId) (t : Tag) (s : State) : (timerExpires r t s).clu = s.clu := by
  unfold timerExpires; (repeat' split) <;> simp
@[simp] theorem timerExpires_pending (r : ReqId) (t : Tag) (s : State) : (timerExpires r t s).pending = s.pending := by
  unfold timerExpires; (repeat' split) <;> simp
@[simp] theorem timerExpires_freeUsed (r : ReqId) (t : Tag) (s : State) : (timerExpires r t s).freeUsed = s.freeUsed := by
  unfold timerExpires; (repeat' split) <;> simp

end Sys2Proof.Machine
end

