-- ==== Sys2Proof/Laws/FrameUnits.lean ====
section
/-! SUPPORT. Which parts of the state the operations of the Change List, Meter and Credit Units and of the field writes leave
alone: one lemma per operation and part. -/

namespace Sys2Proof.Machine

@[simp] theorem trigger_powered (k : TriggerSource) (s : State) : (trigger k s).powered = s.powered := by
  unfold trigger; (repeat' split) <;> simp
@[simp] theorem trigger_up (k : TriggerSource) (s : State) : (trigger k s).up = s.up := by
  unfold trigger; (repeat' split) <;> simp
@[simp] theorem trigger_dp (k : TriggerSource) (s : State) : (trigger k s).dp = s.dp := by
  unfold trigger; (repeat' split) <;> simp
@[simp] theorem trigger_rmu (k : TriggerSource) (s : State) : (trigger k s).rmu = s.rmu := by
  unfold trigger; (repeat' split) <;> simp
@[simp] theorem trigger_hs (k : TriggerSource) (s : State) : (trigger k s).hs = s.hs := by
  unfold trigger; (repeat' split) <;> simp
@[simp] theorem trigger_gw (k : TriggerSource) (s : State) : (trigger k s).gw = s.gw := by
  unfold trigger; (repeat' split) <;> simp
@[simp] theorem trigger_ce (k : TriggerSource) (s : State) : (trigger k s).ce = s.ce := by
  unfold trigger; (repeat' split) <;> simp
@[simp] theorem trigger_fu (k : TriggerSource) (s : State) : (trigger k s).fu = s.fu := by
  unfold trigger; (repeat' split) <;> simp
@[simp] theorem trigger_mu (k : TriggerSource) (s : State) : (trigger k s).mu = s.mu := by
  unfold trigger; (repeat' split) <;> simp
@[simp] theorem trigger_pending (k : TriggerSource) (s : State) : (trigger k s).pending = s.pending := by
  unfold trigger; (repeat' split) <;> simp
@[simp] theorem trigger_freeUsed (k : TriggerSource) (s : State) : (trigger k s).freeUsed = s.freeUsed := by
  unfold trigger; (repeat' split) <;> simp
@[simp] theorem countDown_powered (s : State) : (countDown s).powered = s.powered := rfl
@[simp] theorem countDown_up (s : State) : (countDown s).up = s.up := rfl
@[simp] theorem countDown_dp (s : State) : (countDown s).dp = s.dp := rfl
@[simp] theorem countDown_rmu (s : State) : (countDown s).rmu = s.rmu := rfl
@[simp] theorem countDown_hs (s : State) : (countDown s).hs = s.hs := rfl
@[simp] theorem countDown_gw (s : State) : (countDown s).gw = s.gw := rfl
@[simp] theorem countDown_ce (s : State) : (countDown s).ce = s.ce := rfl
@[simp] theorem countDown_fu (s : State) : (countDown s).fu = s.fu := rfl
@[simp] theorem countDown_mu (s : State) : (countDown s).mu = s.mu := rfl
@[simp] theorem countDown_mp (s : State) : (countDown s).mp = s.mp := rfl
@[simp] theorem countDown_pending (s : State) : (countDown s).pending = s.pending := rfl
@[simp] theorem countDown_freeUsed (s : State) : (countDown s).freeUsed = s.freeUsed := rfl
@[simp] theorem countdownExpires_powered (s : State) : (countdownExpires s).powered = s.powered := by
  unfold countdownExpires; split <;> simp
@[simp] theorem countdownExpires_up (s : State) : (countdownExpires s).up = s.up := by
  unfold countdownExpires; split <;> simp
@[simp] theorem countdownExpires_dp (s : State) : (countdownExpires s).dp = s.dp := by
  unfold countdownExpires; split <;> simp
@[simp] theorem countdownExpires_rmu (s : State) : (countdownExpires s).rmu = s.rmu := by
  unfold countdownExpires; split <;> simp
@[simp] theorem countdownExpires_hs (s : State) : (countdownExpires s).hs = s.hs := by
  unfold countdownExpires; split <;> simp
@[simp] theorem countdownExpires_gw (s : State) : (countdownExpires s).gw = s.gw := by
  unfold countdownExpires; split <;> simp
@[simp] theorem countdownExpires_ce (s : State) : (countdownExpires s).ce = s.ce := by
  unfold countdownExpires; split <;> simp
@[simp] theorem countdownExpires_fu (s : State) : (countdownExpires s).fu = s.fu := by
  unfold countdownExpires; split <;> simp
@[simp] theorem countdownExpires_mu (s : State) : (countdownExpires s).mu = s.mu := by
  unfold countdownExpires; split <;> simp
@[simp] theorem countdownExpires_pending (s : State) : (countdownExpires s).pending = s.pending := by
  unfold countdownExpires; split <;> simp
@[simp] theorem countdownExpires_freeUsed (s : State) : (countdownExpires s).freeUsed = s.freeUsed := by
  unfold countdownExpires; split <;> simp
@[simp] theorem closeWindow_powered (n : Nat) (s : State) : (closeWindow n s).powered = s.powered := rfl
@[simp] theorem closeWindow_up (n : Nat) (s : State) : (closeWindow n s).up = s.up := rfl
@[simp] theorem closeWindow_dp (n : Nat) (s : State) : (closeWindow n s).dp = s.dp := rfl
@[simp] theorem closeWindow_rmu (n : Nat) (s : State) : (closeWindow n s).rmu = s.rmu := rfl
@[simp] theorem closeWindow_hs (n : Nat) (s : State) : (closeWindow n s).hs = s.hs := rfl
@[simp] theorem closeWindow_gw (n : Nat) (s : State) : (closeWindow n s).gw = s.gw := rfl
@[simp] theorem closeWindow_ce (n : Nat) (s : State) : (closeWindow n s).ce = s.ce := rfl
@[simp] theorem closeWindow_fu (n : Nat) (s : State) : (closeWindow n s).fu = s.fu := rfl
@[simp] theorem closeWindow_clu (n : Nat) (s : State) : (closeWindow n s).clu = s.clu := rfl
@[simp] theorem closeWindow_mp (n : Nat) (s : State) : (closeWindow n s).mp = s.mp := rfl
@[simp] theorem closeWindow_pending (n : Nat) (s : State) : (closeWindow n s).pending = s.pending := rfl
@[simp] theorem closeWindow_freeUsed (n : Nat) (s : State) : (closeWindow n s).freeUsed = s.freeUsed := rfl
@[simp] theorem markBacklog_powered (b : EntryIx → Bool) (s : State) : (markBacklog b s).powered = s.powered := by
  simp [markBacklog]
@[simp] theorem markBacklog_up (b : EntryIx → Bool) (s : State) : (markBacklog b s).up = s.up := by simp [markBacklog]
@[simp] theorem markBacklog_dp (b : EntryIx → Bool) (s : State) : (markBacklog b s).dp = s.dp := by simp [markBacklog]
@[simp] theorem markBacklog_rmu (b : EntryIx → Bool) (s : State) : (markBacklog b s).rmu = s.rmu := by
  simp [markBacklog]
@[simp] theorem markBacklog_hs (b : EntryIx → Bool) (s : State) : (markBacklog b s).hs = s.hs := by simp [markBacklog]
@[simp] theorem markBacklog_gw (b : EntryIx → Bool) (s : State) : (markBacklog b s).gw = s.gw := by simp [markBacklog]
@[simp] theorem markBacklog_ce (b : EntryIx → Bool) (s : State) : (markBacklog b s).ce = s.ce := by simp [markBacklog]
@[simp] theorem markBacklog_fu (b : EntryIx → Bool) (s : State) : (markBacklog b s).fu = s.fu := by simp [markBacklog]
@[simp] theorem markBacklog_clu (b : EntryIx → Bool) (s : State) : (markBacklog b s).clu = s.clu := by
  simp [markBacklog]
@[simp] theorem markBacklog_mp (b : EntryIx → Bool) (s : State) : (markBacklog b s).mp = s.mp := by simp [markBacklog]
@[simp] theorem markBacklog_pending (b : EntryIx → Bool) (s : State) : (markBacklog b s).pending = s.pending := by
  simp [markBacklog]
@[simp] theorem markBacklog_freeUsed (b : EntryIx → Bool) (s : State) : (markBacklog b s).freeUsed = s.freeUsed := by
  simp [markBacklog]
@[simp] theorem noteFreeEpoch_powered (n : Nat) (s : State) : (noteFreeEpoch n s).powered = s.powered := by
  unfold noteFreeEpoch; split <;> rfl
@[simp] theorem noteFreeEpoch_up (n : Nat) (s : State) : (noteFreeEpoch n s).up = s.up := by
  unfold noteFreeEpoch; split <;> rfl
@[simp] theorem noteFreeEpoch_dp (n : Nat) (s : State) : (noteFreeEpoch n s).dp = s.dp := by
  unfold noteFreeEpoch; split <;> rfl
@[simp] theorem noteFreeEpoch_rmu (n : Nat) (s : State) : (noteFreeEpoch n s).rmu = s.rmu := by
  unfold noteFreeEpoch; split <;> rfl
@[simp] theorem noteFreeEpoch_hs (n : Nat) (s : State) : (noteFreeEpoch n s).hs = s.hs := by
  unfold noteFreeEpoch; split <;> rfl
@[simp] theorem noteFreeEpoch_gw (n : Nat) (s : State) : (noteFreeEpoch n s).gw = s.gw := by
  unfold noteFreeEpoch; split <;> rfl
@[simp] theorem noteFreeEpoch_ce (n : Nat) (s : State) : (noteFreeEpoch n s).ce = s.ce := by
  unfold noteFreeEpoch; split <;> rfl
@[simp] theorem noteFreeEpoch_fu (n : Nat) (s : State) : (noteFreeEpoch n s).fu = s.fu := by
  unfold noteFreeEpoch; split <;> rfl
@[simp] theorem noteFreeEpoch_mu (n : Nat) (s : State) : (noteFreeEpoch n s).mu = s.mu := by
  unfold noteFreeEpoch; split <;> rfl
@[simp] theorem noteFreeEpoch_clu (n : Nat) (s : State) : (noteFreeEpoch n s).clu = s.clu := by
  unfold noteFreeEpoch; split <;> rfl
@[simp] theorem noteFreeEpoch_mp (n : Nat) (s : State) : (noteFreeEpoch n s).mp = s.mp := by
  unfold noteFreeEpoch; split <;> rfl
@[simp] theorem noteFreeEpoch_pending (n : Nat) (s : State) : (noteFreeEpoch n s).pending = s.pending := by
  unfold noteFreeEpoch; split <;> rfl
@[simp] theorem meterExpiry_powered (b : EntryIx → Bool) (s : State) : (meterExpiry b s).powered = s.powered := by
  unfold meterExpiry; dsimp only; (repeat' split) <;> simp
@[simp] theorem meterExpiry_up (b : EntryIx → Bool) (s : State) : (meterExpiry b s).up = s.up := by
  unfold meterExpiry; dsimp only; (repeat' split) <;> simp
@[simp] theorem meterExpiry_dp (b : EntryIx → Bool) (s : State) : (meterExpiry b s).dp = s.dp := by
  unfold meterExpiry; dsimp only; (repeat' split) <;> simp
@[simp] theorem meterExpiry_rmu (b : EntryIx → Bool) (s : State) : (meterExpiry b s).rmu = s.rmu := by
  unfold meterExpiry; dsimp only; (repeat' split) <;> simp
@[simp] theorem meterExpiry_hs (b : EntryIx → Bool) (s : State) : (meterExpiry b s).hs = s.hs := by
  unfold meterExpiry; dsimp only; (repeat' split) <;> simp
@[simp] theorem meterExpiry_gw (b : EntryIx → Bool) (s : State) : (meterExpiry b s).gw = s.gw := by
  unfold meterExpiry; dsimp only; (repeat' split) <;> simp
@[simp] theorem meterExpiry_ce (b : EntryIx → Bool) (s : State) : (meterExpiry b s).ce = s.ce := by
  unfold meterExpiry; dsimp only; (repeat' split) <;> simp
@[simp] theorem meterExpiry_fu (b : EntryIx → Bool) (s : State) : (meterExpiry b s).fu = s.fu := by
  unfold meterExpiry; dsimp only; (repeat' split) <;> simp
@[simp] theorem meterExpiry_clu (b : EntryIx → Bool) (s : State) : (meterExpiry b s).clu = s.clu := by
  unfold meterExpiry; dsimp only; (repeat' split) <;> simp
@[simp] theorem meterExpiry_mp (b : EntryIx → Bool) (s : State) : (meterExpiry b s).mp = s.mp := by
  unfold meterExpiry; dsimp only; (repeat' split) <;> simp
@[simp] theorem meterExpiry_pending (b : EntryIx → Bool) (s : State) : (meterExpiry b s).pending = s.pending := by
  unfold meterExpiry; dsimp only; (repeat' split) <;> simp
@[simp] theorem postLimits_powered (e : EntryIx) (c : EntryConfig) (r : ClosingRecord) (s : State) : (postLimits e c r s).powered = s.powered := by
  unfold postLimits; (repeat' split) <;> simp
@[simp] theorem postLimits_up (e : EntryIx) (c : EntryConfig) (r : ClosingRecord) (s : State) : (postLimits e c r s).up = s.up := by
  unfold postLimits; (repeat' split) <;> simp
@[simp] theorem postLimits_dp (e : EntryIx) (c : EntryConfig) (r : ClosingRecord) (s : State) : (postLimits e c r s).dp = s.dp := by
  unfold postLimits; (repeat' split) <;> simp
@[simp] theorem postLimits_rmu (e : EntryIx) (c : EntryConfig) (r : ClosingRecord) (s : State) : (postLimits e c r s).rmu = s.rmu := by
  unfold postLimits; (repeat' split) <;> simp
@[simp] theorem postLimits_hs (e : EntryIx) (c : EntryConfig) (r : ClosingRecord) (s : State) : (postLimits e c r s).hs = s.hs := by
  unfold postLimits; (repeat' split) <;> simp
@[simp] theorem postLimits_gw (e : EntryIx) (c : EntryConfig) (r : ClosingRecord) (s : State) : (postLimits e c r s).gw = s.gw := by
  unfold postLimits; (repeat' split) <;> simp
@[simp] theorem postLimits_ce (e : EntryIx) (c : EntryConfig) (r : ClosingRecord) (s : State) : (postLimits e c r s).ce = s.ce := by
  unfold postLimits; (repeat' split) <;> simp
@[simp] theorem postLimits_fu (e : EntryIx) (c : EntryConfig) (r : ClosingRecord) (s : State) : (postLimits e c r s).fu = s.fu := by
  unfold postLimits; (repeat' split) <;> simp
@[simp] theorem postLimits_mu (e : EntryIx) (c : EntryConfig) (r : ClosingRecord) (s : State) : (postLimits e c r s).mu = s.mu := by
  unfold postLimits; (repeat' split) <;> simp
@[simp] theorem postLimits_clu (e : EntryIx) (c : EntryConfig) (r : ClosingRecord) (s : State) : (postLimits e c r s).clu = s.clu := by
  unfold postLimits; (repeat' split) <;> simp
@[simp] theorem postLimits_pending (e : EntryIx) (c : EntryConfig) (r : ClosingRecord) (s : State) : (postLimits e c r s).pending = s.pending := by
  unfold postLimits; (repeat' split) <;> simp
@[simp] theorem postLimits_freeUsed (e : EntryIx) (c : EntryConfig) (r : ClosingRecord) (s : State) : (postLimits e c r s).freeUsed = s.freeUsed := by
  unfold postLimits; (repeat' split) <;> simp
@[simp] theorem postCrossing_powered (e : EntryIx) (c : EntryConfig) (r : ClosingRecord) (l : CrossSign) (s : State) : (postCrossing e c r l s).powered = s.powered := by
  unfold postCrossing; (repeat' split) <;> simp
@[simp] theorem postCrossing_up (e : EntryIx) (c : EntryConfig) (r : ClosingRecord) (l : CrossSign) (s : State) : (postCrossing e c r l s).up = s.up := by
  unfold postCrossing; (repeat' split) <;> simp
@[simp] theorem postCrossing_dp (e : EntryIx) (c : EntryConfig) (r : ClosingRecord) (l : CrossSign) (s : State) : (postCrossing e c r l s).dp = s.dp := by
  unfold postCrossing; (repeat' split) <;> simp
@[simp] theorem postCrossing_rmu (e : EntryIx) (c : EntryConfig) (r : ClosingRecord) (l : CrossSign) (s : State) : (postCrossing e c r l s).rmu = s.rmu := by
  unfold postCrossing; (repeat' split) <;> simp
@[simp] theorem postCrossing_hs (e : EntryIx) (c : EntryConfig) (r : ClosingRecord) (l : CrossSign) (s : State) : (postCrossing e c r l s).hs = s.hs := by
  unfold postCrossing; (repeat' split) <;> simp
@[simp] theorem postCrossing_gw (e : EntryIx) (c : EntryConfig) (r : ClosingRecord) (l : CrossSign) (s : State) : (postCrossing e c r l s).gw = s.gw := by
  unfold postCrossing; (repeat' split) <;> simp
@[simp] theorem postCrossing_ce (e : EntryIx) (c : EntryConfig) (r : ClosingRecord) (l : CrossSign) (s : State) : (postCrossing e c r l s).ce = s.ce := by
  unfold postCrossing; (repeat' split) <;> simp
@[simp] theorem postCrossing_fu (e : EntryIx) (c : EntryConfig) (r : ClosingRecord) (l : CrossSign) (s : State) : (postCrossing e c r l s).fu = s.fu := by
  unfold postCrossing; (repeat' split) <;> simp
@[simp] theorem postCrossing_mu (e : EntryIx) (c : EntryConfig) (r : ClosingRecord) (l : CrossSign) (s : State) : (postCrossing e c r l s).mu = s.mu := by
  unfold postCrossing; (repeat' split) <;> simp
@[simp] theorem postCrossing_clu (e : EntryIx) (c : EntryConfig) (r : ClosingRecord) (l : CrossSign) (s : State) : (postCrossing e c r l s).clu = s.clu := by
  unfold postCrossing; (repeat' split) <;> simp
@[simp] theorem postCrossing_pending (e : EntryIx) (c : EntryConfig) (r : ClosingRecord) (l : CrossSign) (s : State) : (postCrossing e c r l s).pending = s.pending := by
  unfold postCrossing; (repeat' split) <;> simp
@[simp] theorem postCrossing_freeUsed (e : EntryIx) (c : EntryConfig) (r : ClosingRecord) (l : CrossSign) (s : State) : (postCrossing e c r l s).freeUsed = s.freeUsed := by
  unfold postCrossing; (repeat' split) <;> simp
@[simp] theorem announce_powered (e : EntryIx) (m : Nat) (t : Option Transition) (s : State) : (announce e m t s).powered = s.powered := by
  unfold announce; split <;> simp
@[simp] theorem announce_up (e : EntryIx) (m : Nat) (t : Option Transition) (s : State) : (announce e m t s).up = s.up := by
  unfold announce; split <;> simp
@[simp] theorem announce_dp (e : EntryIx) (m : Nat) (t : Option Transition) (s : State) : (announce e m t s).dp = s.dp := by
  unfold announce; split <;> simp
@[simp] theorem announce_rmu (e : EntryIx) (m : Nat) (t : Option Transition) (s : State) : (announce e m t s).rmu = s.rmu := by
  unfold announce; split <;> simp
@[simp] theorem announce_hs (e : EntryIx) (m : Nat) (t : Option Transition) (s : State) : (announce e m t s).hs = s.hs := by
  unfold announce; split <;> simp
@[simp] theorem announce_gw (e : EntryIx) (m : Nat) (t : Option Transition) (s : State) : (announce e m t s).gw = s.gw := by
  unfold announce; split <;> simp
@[simp] theorem announce_ce (e : EntryIx) (m : Nat) (t : Option Transition) (s : State) : (announce e m t s).ce = s.ce := by
  unfold announce; split <;> simp
@[simp] theorem announce_fu (e : EntryIx) (m : Nat) (t : Option Transition) (s : State) : (announce e m t s).fu = s.fu := by
  unfold announce; split <;> simp
@[simp] theorem announce_mu (e : EntryIx) (m : Nat) (t : Option Transition) (s : State) : (announce e m t s).mu = s.mu := by
  unfold announce; split <;> simp
@[simp] theorem announce_pending (e : EntryIx) (m : Nat) (t : Option Transition) (s : State) : (announce e m t s).pending = s.pending := by
  unfold announce; split <;> simp
@[simp] theorem announce_freeUsed (e : EntryIx) (m : Nat) (t : Option Transition) (s : State) : (announce e m t s).freeUsed = s.freeUsed := by
  unfold announce; split <;> simp
@[simp] theorem evaluateEntry_powered (e : EntryIx) (s : State) : (evaluateEntry e s).powered = s.powered := by
  simp [evaluateEntry]
@[simp] theorem evaluateEntry_up (e : EntryIx) (s : State) : (evaluateEntry e s).up = s.up := by simp [evaluateEntry]
@[simp] theorem evaluateEntry_dp (e : EntryIx) (s : State) : (evaluateEntry e s).dp = s.dp := by simp [evaluateEntry]
@[simp] theorem evaluateEntry_rmu (e : EntryIx) (s : State) : (evaluateEntry e s).rmu = s.rmu := by
  simp [evaluateEntry]
@[simp] theorem evaluateEntry_hs (e : EntryIx) (s : State) : (evaluateEntry e s).hs = s.hs := by simp [evaluateEntry]
@[simp] theorem evaluateEntry_gw (e : EntryIx) (s : State) : (evaluateEntry e s).gw = s.gw := by simp [evaluateEntry]
@[simp] theorem evaluateEntry_ce (e : EntryIx) (s : State) : (evaluateEntry e s).ce = s.ce := by simp [evaluateEntry]
@[simp] theorem evaluateEntry_fu (e : EntryIx) (s : State) : (evaluateEntry e s).fu = s.fu := by simp [evaluateEntry]
@[simp] theorem evaluateEntry_pending (e : EntryIx) (s : State) : (evaluateEntry e s).pending = s.pending := by
  simp [evaluateEntry]
@[simp] theorem evaluateEntry_freeUsed (e : EntryIx) (s : State) : (evaluateEntry e s).freeUsed = s.freeUsed := by
  simp [evaluateEntry]
@[simp] theorem endEvaluation_powered (s : State) : (endEvaluation s).powered = s.powered := by
  unfold endEvaluation; split <;> simp
@[simp] theorem endEvaluation_up (s : State) : (endEvaluation s).up = s.up := by
  unfold endEvaluation; split <;> simp
@[simp] theorem endEvaluation_dp (s : State) : (endEvaluation s).dp = s.dp := by
  unfold endEvaluation; split <;> simp
@[simp] theorem endEvaluation_rmu (s : State) : (endEvaluation s).rmu = s.rmu := by
  unfold endEvaluation; split <;> simp
@[simp] theorem endEvaluation_hs (s : State) : (endEvaluation s).hs = s.hs := by
  unfold endEvaluation; split <;> simp
@[simp] theorem endEvaluation_gw (s : State) : (endEvaluation s).gw = s.gw := by
  unfold endEvaluation; split <;> simp
@[simp] theorem endEvaluation_ce (s : State) : (endEvaluation s).ce = s.ce := by
  unfold endEvaluation; split <;> simp
@[simp] theorem endEvaluation_fu (s : State) : (endEvaluation s).fu = s.fu := by
  unfold endEvaluation; split <;> simp
@[simp] theorem endEvaluation_clu (s : State) : (endEvaluation s).clu = s.clu := by
  unfold endEvaluation; split <;> simp
@[simp] theorem endEvaluation_mp (s : State) : (endEvaluation s).mp = s.mp := by
  unfold endEvaluation; split <;> simp
@[simp] theorem endEvaluation_pending (s : State) : (endEvaluation s).pending = s.pending := by
  unfold endEvaluation; split <;> simp
@[simp] theorem endEvaluation_freeUsed (s : State) : (endEvaluation s).freeUsed = s.freeUsed := by
  unfold endEvaluation; split <;> simp
@[simp] theorem evaluationStep_powered (s : State) : (evaluationStep s).powered = s.powered := by
  unfold evaluationStep; dsimp only; (repeat' split) <;> simp
@[simp] theorem evaluationStep_up (s : State) : (evaluationStep s).up = s.up := by
  unfold evaluationStep; dsimp only; (repeat' split) <;> simp
@[simp] theorem evaluationStep_dp (s : State) : (evaluationStep s).dp = s.dp := by
  unfold evaluationStep; dsimp only; (repeat' split) <;> simp
@[simp] theorem evaluationStep_rmu (s : State) : (evaluationStep s).rmu = s.rmu := by
  unfold evaluationStep; dsimp only; (repeat' split) <;> simp
@[simp] theorem evaluationStep_hs (s : State) : (evaluationStep s).hs = s.hs := by
  unfold evaluationStep; dsimp only; (repeat' split) <;> simp
@[simp] theorem evaluationStep_gw (s : State) : (evaluationStep s).gw = s.gw := by
  unfold evaluationStep; dsimp only; (repeat' split) <;> simp
@[simp] theorem evaluationStep_ce (s : State) : (evaluationStep s).ce = s.ce := by
  unfold evaluationStep; dsimp only; (repeat' split) <;> simp
@[simp] theorem evaluationStep_fu (s : State) : (evaluationStep s).fu = s.fu := by
  unfold evaluationStep; dsimp only; (repeat' split) <;> simp
@[simp] theorem evaluationStep_pending (s : State) : (evaluationStep s).pending = s.pending := by
  unfold evaluationStep; dsimp only; (repeat' split) <;> simp
@[simp] theorem evaluationStep_freeUsed (s : State) : (evaluationStep s).freeUsed = s.freeUsed := by
  unfold evaluationStep; dsimp only; (repeat' split) <;> simp
@[simp] theorem beginPass_powered (s : State) : (beginPass s).powered = s.powered := rfl
@[simp] theorem beginPass_up (s : State) : (beginPass s).up = s.up := rfl
@[simp] theorem beginPass_dp (s : State) : (beginPass s).dp = s.dp := rfl
@[simp] theorem beginPass_rmu (s : State) : (beginPass s).rmu = s.rmu := rfl
@[simp] theorem beginPass_hs (s : State) : (beginPass s).hs = s.hs := rfl
@[simp] theorem beginPass_gw (s : State) : (beginPass s).gw = s.gw := rfl
@[simp] theorem beginPass_fu (s : State) : (beginPass s).fu = s.fu := rfl
@[simp] theorem beginPass_mu (s : State) : (beginPass s).mu = s.mu := rfl
@[simp] theorem beginPass_clu (s : State) : (beginPass s).clu = s.clu := rfl
@[simp] theorem beginPass_mp (s : State) : (beginPass s).mp = s.mp := rfl
@[simp] theorem beginPass_pending (s : State) : (beginPass s).pending = s.pending := rfl
@[simp] theorem beginPass_freeUsed (s : State) : (beginPass s).freeUsed = s.freeUsed := rfl
@[simp] theorem advanceEpoch_powered (s : State) : (advanceEpoch s).powered = s.powered := rfl
@[simp] theorem advanceEpoch_up (s : State) : (advanceEpoch s).up = s.up := rfl
@[simp] theorem advanceEpoch_dp (s : State) : (advanceEpoch s).dp = s.dp := rfl
@[simp] theorem advanceEpoch_rmu (s : State) : (advanceEpoch s).rmu = s.rmu := rfl
@[simp] theorem advanceEpoch_hs (s : State) : (advanceEpoch s).hs = s.hs := rfl
@[simp] theorem advanceEpoch_gw (s : State) : (advanceEpoch s).gw = s.gw := rfl
@[simp] theorem advanceEpoch_fu (s : State) : (advanceEpoch s).fu = s.fu := rfl
@[simp] theorem advanceEpoch_mu (s : State) : (advanceEpoch s).mu = s.mu := rfl
@[simp] theorem advanceEpoch_clu (s : State) : (advanceEpoch s).clu = s.clu := rfl
@[simp] theorem advanceEpoch_mp (s : State) : (advanceEpoch s).mp = s.mp := rfl
@[simp] theorem advanceEpoch_pending (s : State) : (advanceEpoch s).pending = s.pending := rfl
@[simp] theorem advanceEpoch_freeUsed (s : State) : (advanceEpoch s).freeUsed = s.freeUsed := rfl
@[simp] theorem epochExpiry_powered (s : State) : (epochExpiry s).powered = s.powered := by
  unfold epochExpiry; split <;> simp
@[simp] theorem epochExpiry_up (s : State) : (epochExpiry s).up = s.up := by
  unfold epochExpiry; split <;> simp
@[simp] theorem epochExpiry_dp (s : State) : (epochExpiry s).dp = s.dp := by
  unfold epochExpiry; split <;> simp
@[simp] theorem epochExpiry_rmu (s : State) : (epochExpiry s).rmu = s.rmu := by
  unfold epochExpiry; split <;> simp
@[simp] theorem epochExpiry_hs (s : State) : (epochExpiry s).hs = s.hs := by
  unfold epochExpiry; split <;> simp
@[simp] theorem epochExpiry_fu (s : State) : (epochExpiry s).fu = s.fu := by
  unfold epochExpiry; split <;> simp
@[simp] theorem epochExpiry_pending (s : State) : (epochExpiry s).pending = s.pending := by
  unfold epochExpiry; split <;> simp
@[simp] theorem nextInterval_powered (s : State) : (nextInterval s).powered = s.powered := rfl
@[simp] theorem nextInterval_up (s : State) : (nextInterval s).up = s.up := rfl
@[simp] theorem nextInterval_dp (s : State) : (nextInterval s).dp = s.dp := rfl
@[simp] theorem nextInterval_rmu (s : State) : (nextInterval s).rmu = s.rmu := rfl
@[simp] theorem nextInterval_hs (s : State) : (nextInterval s).hs = s.hs := rfl
@[simp] theorem nextInterval_gw (s : State) : (nextInterval s).gw = s.gw := rfl
@[simp] theorem nextInterval_fu (s : State) : (nextInterval s).fu = s.fu := rfl
@[simp] theorem nextInterval_mu (s : State) : (nextInterval s).mu = s.mu := rfl
@[simp] theorem nextInterval_clu (s : State) : (nextInterval s).clu = s.clu := rfl
@[simp] theorem nextInterval_mp (s : State) : (nextInterval s).mp = s.mp := rfl
@[simp] theorem nextInterval_pending (s : State) : (nextInterval s).pending = s.pending := rfl
@[simp] theorem nextInterval_freeUsed (s : State) : (nextInterval s).freeUsed = s.freeUsed := rfl
@[simp] theorem timerExpiry_powered (s : State) : (timerExpiry s).powered = s.powered := by
  unfold timerExpiry; (repeat' split) <;> simp
@[simp] theorem timerExpiry_up (s : State) : (timerExpiry s).up = s.up := by
  unfold timerExpiry; (repeat' split) <;> simp
@[simp] theorem timerExpiry_dp (s : State) : (timerExpiry s).dp = s.dp := by
  unfold timerExpiry; (repeat' split) <;> simp
@[simp] theorem timerExpiry_rmu (s : State) : (timerExpiry s).rmu = s.rmu := by
  unfold timerExpiry; (repeat' split) <;> simp
@[simp] theorem timerExpiry_hs (s : State) : (timerExpiry s).hs = s.hs := by
  unfold timerExpiry; (repeat' split) <;> simp
@[simp] theorem timerExpiry_fu (s : State) : (timerExpiry s).fu = s.fu := by
  unfold timerExpiry; (repeat' split) <;> simp
@[simp] theorem timerExpiry_pending (s : State) : (timerExpiry s).pending = s.pending := by
  unfold timerExpiry; (repeat' split) <;> simp
@[simp] theorem pulseEnds_powered (s : State) : (pulseEnds s).powered = s.powered := rfl
@[simp] theorem pulseEnds_up (s : State) : (pulseEnds s).up = s.up := rfl
@[simp] theorem pulseEnds_dp (s : State) : (pulseEnds s).dp = s.dp := rfl
@[simp] theorem pulseEnds_rmu (s : State) : (pulseEnds s).rmu = s.rmu := rfl
@[simp] theorem pulseEnds_hs (s : State) : (pulseEnds s).hs = s.hs := rfl
@[simp] theorem pulseEnds_gw (s : State) : (pulseEnds s).gw = s.gw := rfl
@[simp] theorem pulseEnds_ce (s : State) : (pulseEnds s).ce = s.ce := rfl
@[simp] theorem pulseEnds_fu (s : State) : (pulseEnds s).fu = s.fu := rfl
@[simp] theorem pulseEnds_mu (s : State) : (pulseEnds s).mu = s.mu := rfl
@[simp] theorem pulseEnds_clu (s : State) : (pulseEnds s).clu = s.clu := rfl
@[simp] theorem pulseEnds_pending (s : State) : (pulseEnds s).pending = s.pending := rfl
@[simp] theorem pulseEnds_freeUsed (s : State) : (pulseEnds s).freeUsed = s.freeUsed := rfl
@[simp] theorem paceEdge_powered (s : State) : (paceEdge s).powered = s.powered := by
  unfold paceEdge; (repeat' split) <;> simp
@[simp] theorem paceEdge_up (s : State) : (paceEdge s).up = s.up := by
  unfold paceEdge; (repeat' split) <;> simp
@[simp] theorem paceEdge_dp (s : State) : (paceEdge s).dp = s.dp := by
  unfold paceEdge; (repeat' split) <;> simp
@[simp] theorem paceEdge_rmu (s : State) : (paceEdge s).rmu = s.rmu := by
  unfold paceEdge; (repeat' split) <;> simp
@[simp] theorem paceEdge_hs (s : State) : (paceEdge s).hs = s.hs := by
  unfold paceEdge; (repeat' split) <;> simp
@[simp] theorem paceEdge_fu (s : State) : (paceEdge s).fu = s.fu := by
  unfold paceEdge; (repeat' split) <;> simp
@[simp] theorem paceEdge_pending (s : State) : (paceEdge s).pending = s.pending := by
  unfold paceEdge; (repeat' split) <;> simp
@[simp] theorem landRow_powered (p : RefillPass) (r : SnapshotRow) (s : State) : (landRow p r s).powered = s.powered := by
  unfold landRow; split <;> simp
@[simp] theorem landRow_up (p : RefillPass) (r : SnapshotRow) (s : State) : (landRow p r s).up = s.up := by
  unfold landRow; split <;> simp
@[simp] theorem landRow_dp (p : RefillPass) (r : SnapshotRow) (s : State) : (landRow p r s).dp = s.dp := by
  unfold landRow; split <;> simp
@[simp] theorem landRow_rmu (p : RefillPass) (r : SnapshotRow) (s : State) : (landRow p r s).rmu = s.rmu := by
  unfold landRow; split <;> simp
@[simp] theorem landRow_hs (p : RefillPass) (r : SnapshotRow) (s : State) : (landRow p r s).hs = s.hs := by
  unfold landRow; split <;> simp
@[simp] theorem landRow_gw (p : RefillPass) (r : SnapshotRow) (s : State) : (landRow p r s).gw = s.gw := by
  unfold landRow; split <;> simp
@[simp] theorem landRow_fu (p : RefillPass) (r : SnapshotRow) (s : State) : (landRow p r s).fu = s.fu := by
  unfold landRow; split <;> simp
@[simp] theorem landRow_mu (p : RefillPass) (r : SnapshotRow) (s : State) : (landRow p r s).mu = s.mu := by
  unfold landRow; split <;> simp
@[simp] theorem landRow_clu (p : RefillPass) (r : SnapshotRow) (s : State) : (landRow p r s).clu = s.clu := by
  unfold landRow; split <;> simp
@[simp] theorem landRow_mp (p : RefillPass) (r : SnapshotRow) (s : State) : (landRow p r s).mp = s.mp := by
  unfold landRow; split <;> simp
@[simp] theorem landRow_pending (p : RefillPass) (r : SnapshotRow) (s : State) : (landRow p r s).pending = s.pending := by
  unfold landRow; split <;> simp
@[simp] theorem landRow_freeUsed (p : RefillPass) (r : SnapshotRow) (s : State) : (landRow p r s).freeUsed = s.freeUsed := by
  unfold landRow; split <;> simp
@[simp] theorem refillLanding_powered (s : State) : (refillLanding s).powered = s.powered := by
  unfold refillLanding; (repeat' split) <;> simp
@[simp] theorem refillLanding_up (s : State) : (refillLanding s).up = s.up := by
  unfold refillLanding; (repeat' split) <;> simp
@[simp] theorem refillLanding_dp (s : State) : (refillLanding s).dp = s.dp := by
  unfold refillLanding; (repeat' split) <;> simp
@[simp] theorem refillLanding_rmu (s : State) : (refillLanding s).rmu = s.rmu := by
  unfold refillLanding; (repeat' split) <;> simp
@[simp] theorem refillLanding_hs (s : State) : (refillLanding s).hs = s.hs := by
  unfold refillLanding; (repeat' split) <;> simp
@[simp] theorem refillLanding_gw (s : State) : (refillLanding s).gw = s.gw := by
  unfold refillLanding; (repeat' split) <;> simp
@[simp] theorem refillLanding_fu (s : State) : (refillLanding s).fu = s.fu := by
  unfold refillLanding; (repeat' split) <;> simp
@[simp] theorem refillLanding_mu (s : State) : (refillLanding s).mu = s.mu := by
  unfold refillLanding; (repeat' split) <;> simp
@[simp] theorem refillLanding_clu (s : State) : (refillLanding s).clu = s.clu := by
  unfold refillLanding; (repeat' split) <;> simp
@[simp] theorem refillLanding_mp (s : State) : (refillLanding s).mp = s.mp := by
  unfold refillLanding; (repeat' split) <;> simp
@[simp] theorem refillLanding_pending (s : State) : (refillLanding s).pending = s.pending := by
  unfold refillLanding; (repeat' split) <;> simp
@[simp] theorem refillLanding_freeUsed (s : State) : (refillLanding s).freeUsed = s.freeUsed := by
  unfold refillLanding; (repeat' split) <;> simp
@[simp] theorem passEnds_powered (s : State) : (passEnds s).powered = s.powered := by
  unfold passEnds; (repeat' split) <;> simp
@[simp] theorem passEnds_up (s : State) : (passEnds s).up = s.up := by
  unfold passEnds; (repeat' split) <;> simp
@[simp] theorem passEnds_dp (s : State) : (passEnds s).dp = s.dp := by
  unfold passEnds; (repeat' split) <;> simp
@[simp] theorem passEnds_rmu (s : State) : (passEnds s).rmu = s.rmu := by
  unfold passEnds; (repeat' split) <;> simp
@[simp] theorem passEnds_hs (s : State) : (passEnds s).hs = s.hs := by
  unfold passEnds; (repeat' split) <;> simp
@[simp] theorem passEnds_fu (s : State) : (passEnds s).fu = s.fu := by
  unfold passEnds; (repeat' split) <;> simp
@[simp] theorem passEnds_mu (s : State) : (passEnds s).mu = s.mu := by
  unfold passEnds; (repeat' split) <;> simp
@[simp] theorem passEnds_clu (s : State) : (passEnds s).clu = s.clu := by
  unfold passEnds; (repeat' split) <;> simp
@[simp] theorem passEnds_mp (s : State) : (passEnds s).mp = s.mp := by
  unfold passEnds; (repeat' split) <;> simp
@[simp] theorem passEnds_pending (s : State) : (passEnds s).pending = s.pending := by
  unfold passEnds; (repeat' split) <;> simp
@[simp] theorem passEnds_freeUsed (s : State) : (passEnds s).freeUsed = s.freeUsed := by
  unfold passEnds; (repeat' split) <;> simp
@[simp] theorem answer_powered (c : AnswerCode) (v : Word) (s : State) : (answer c v s).powered = s.powered := rfl
@[simp] theorem answer_up (c : AnswerCode) (v : Word) (s : State) : (answer c v s).up = s.up := rfl
@[simp] theorem answer_dp (c : AnswerCode) (v : Word) (s : State) : (answer c v s).dp = s.dp := rfl
@[simp] theorem answer_rmu (c : AnswerCode) (v : Word) (s : State) : (answer c v s).rmu = s.rmu := rfl
@[simp] theorem answer_hs (c : AnswerCode) (v : Word) (s : State) : (answer c v s).hs = s.hs := rfl
@[simp] theorem answer_gw (c : AnswerCode) (v : Word) (s : State) : (answer c v s).gw = s.gw := rfl
@[simp] theorem answer_ce (c : AnswerCode) (v : Word) (s : State) : (answer c v s).ce = s.ce := rfl
@[simp] theorem answer_fu (c : AnswerCode) (v : Word) (s : State) : (answer c v s).fu = s.fu := rfl
@[simp] theorem answer_mu (c : AnswerCode) (v : Word) (s : State) : (answer c v s).mu = s.mu := rfl
@[simp] theorem answer_clu (c : AnswerCode) (v : Word) (s : State) : (answer c v s).clu = s.clu := rfl
@[simp] theorem answer_pending (c : AnswerCode) (v : Word) (s : State) : (answer c v s).pending = s.pending := rfl
@[simp] theorem answer_freeUsed (c : AnswerCode) (v : Word) (s : State) : (answer c v s).freeUsed = s.freeUsed := rfl
@[simp] theorem answerNat_powered (c : AnswerCode) (v : Nat) (s : State) : (answerNat c v s).powered = s.powered :=
  rfl
@[simp] theorem answerNat_up (c : AnswerCode) (v : Nat) (s : State) : (answerNat c v s).up = s.up := rfl
@[simp] theorem answerNat_dp (c : AnswerCode) (v : Nat) (s : State) : (answerNat c v s).dp = s.dp := rfl
@[simp] theorem answerNat_rmu (c : AnswerCode) (v : Nat) (s : State) : (answerNat c v s).rmu = s.rmu := rfl
@[simp] theorem answerNat_hs (c : AnswerCode) (v : Nat) (s : State) : (answerNat c v s).hs = s.hs := rfl
@[simp] theorem answerNat_gw (c : AnswerCode) (v : Nat) (s : State) : (answerNat c v s).gw = s.gw := rfl
@[simp] theorem answerNat_ce (c : AnswerCode) (v : Nat) (s : State) : (answerNat c v s).ce = s.ce := rfl
@[simp] theorem answerNat_fu (c : AnswerCode) (v : Nat) (s : State) : (answerNat c v s).fu = s.fu := rfl
@[simp] theorem answerNat_mu (c : AnswerCode) (v : Nat) (s : State) : (answerNat c v s).mu = s.mu := rfl
@[simp] theorem answerNat_clu (c : AnswerCode) (v : Nat) (s : State) : (answerNat c v s).clu = s.clu := rfl
@[simp] theorem answerNat_pending (c : AnswerCode) (v : Nat) (s : State) : (answerNat c v s).pending = s.pending :=
  rfl
@[simp] theorem answerNat_freeUsed (c : AnswerCode) (v : Nat) (s : State) : (answerNat c v s).freeUsed = s.freeUsed :=
  rfl
@[simp] theorem answerFree_powered (c : AnswerCode) (s : State) : (answerFree c s).powered = s.powered := rfl
@[simp] theorem answerFree_up (c : AnswerCode) (s : State) : (answerFree c s).up = s.up := rfl
@[simp] theorem answerFree_dp (c : AnswerCode) (s : State) : (answerFree c s).dp = s.dp := rfl
@[simp] theorem answerFree_rmu (c : AnswerCode) (s : State) : (answerFree c s).rmu = s.rmu := rfl
@[simp] theorem answerFree_hs (c : AnswerCode) (s : State) : (answerFree c s).hs = s.hs := rfl
@[simp] theorem answerFree_gw (c : AnswerCode) (s : State) : (answerFree c s).gw = s.gw := rfl
@[simp] theorem answerFree_ce (c : AnswerCode) (s : State) : (answerFree c s).ce = s.ce := rfl
@[simp] theorem answerFree_fu (c : AnswerCode) (s : State) : (answerFree c s).fu = s.fu := rfl
@[simp] theorem answerFree_mu (c : AnswerCode) (s : State) : (answerFree c s).mu = s.mu := rfl
@[simp] theorem answerFree_clu (c : AnswerCode) (s : State) : (answerFree c s).clu = s.clu := rfl
@[simp] theorem answerFree_pending (c : AnswerCode) (s : State) : (answerFree c s).pending = s.pending := rfl
@[simp] theorem answerField_powered (c : AnswerCode) (f : Field) (s : State) : (answerField c f s).powered = s.powered := by
  unfold answerField; split <;> simp
@[simp] theorem answerField_up (c : AnswerCode) (f : Field) (s : State) : (answerField c f s).up = s.up := by
  unfold answerField; split <;> simp
@[simp] theorem answerField_dp (c : AnswerCode) (f : Field) (s : State) : (answerField c f s).dp = s.dp := by
  unfold answerField; split <;> simp
@[simp] theorem answerField_rmu (c : AnswerCode) (f : Field) (s : State) : (answerField c f s).rmu = s.rmu := by
  unfold answerField; split <;> simp
@[simp] theorem answerField_hs (c : AnswerCode) (f : Field) (s : State) : (answerField c f s).hs = s.hs := by
  unfold answerField; split <;> simp
@[simp] theorem answerField_gw (c : AnswerCode) (f : Field) (s : State) : (answerField c f s).gw = s.gw := by
  unfold answerField; split <;> simp
@[simp] theorem answerField_ce (c : AnswerCode) (f : Field) (s : State) : (answerField c f s).ce = s.ce := by
  unfold answerField; split <;> simp
@[simp] theorem answerField_fu (c : AnswerCode) (f : Field) (s : State) : (answerField c f s).fu = s.fu := by
  unfold answerField; split <;> simp
@[simp] theorem answerField_mu (c : AnswerCode) (f : Field) (s : State) : (answerField c f s).mu = s.mu := by
  unfold answerField; split <;> simp
@[simp] theorem answerField_clu (c : AnswerCode) (f : Field) (s : State) : (answerField c f s).clu = s.clu := by
  unfold answerField; split <;> simp
@[simp] theorem answerField_pending (c : AnswerCode) (f : Field) (s : State) : (answerField c f s).pending = s.pending := by
  unfold answerField; split <;> simp
@[simp] theorem noteEnable_powered (e : EntryIx) (s : State) : (noteEnable e s).powered = s.powered := rfl
@[simp] theorem noteEnable_up (e : EntryIx) (s : State) : (noteEnable e s).up = s.up := rfl
@[simp] theorem noteEnable_dp (e : EntryIx) (s : State) : (noteEnable e s).dp = s.dp := rfl
@[simp] theorem noteEnable_rmu (e : EntryIx) (s : State) : (noteEnable e s).rmu = s.rmu := rfl
@[simp] theorem noteEnable_hs (e : EntryIx) (s : State) : (noteEnable e s).hs = s.hs := rfl
@[simp] theorem noteEnable_gw (e : EntryIx) (s : State) : (noteEnable e s).gw = s.gw := rfl
@[simp] theorem noteEnable_fu (e : EntryIx) (s : State) : (noteEnable e s).fu = s.fu := rfl
@[simp] theorem noteEnable_mu (e : EntryIx) (s : State) : (noteEnable e s).mu = s.mu := rfl
@[simp] theorem noteEnable_clu (e : EntryIx) (s : State) : (noteEnable e s).clu = s.clu := rfl
@[simp] theorem noteEnable_mp (e : EntryIx) (s : State) : (noteEnable e s).mp = s.mp := rfl
@[simp] theorem noteEnable_pending (e : EntryIx) (s : State) : (noteEnable e s).pending = s.pending := rfl
@[simp] theorem noteEnable_freeUsed (e : EntryIx) (s : State) : (noteEnable e s).freeUsed = s.freeUsed := rfl
@[simp] theorem enableEntry_powered (e : EntryIx) (s : State) : (enableEntry e s).powered = s.powered := by
  unfold enableEntry; split <;> simp
@[simp] theorem enableEntry_up (e : EntryIx) (s : State) : (enableEntry e s).up = s.up := by
  unfold enableEntry; split <;> simp
@[simp] theorem enableEntry_dp (e : EntryIx) (s : State) : (enableEntry e s).dp = s.dp := by
  unfold enableEntry; split <;> simp
@[simp] theorem enableEntry_hs (e : EntryIx) (s : State) : (enableEntry e s).hs = s.hs := by
  unfold enableEntry; split <;> simp
@[simp] theorem enableEntry_gw (e : EntryIx) (s : State) : (enableEntry e s).gw = s.gw := by
  unfold enableEntry; split <;> simp
@[simp] theorem enableEntry_fu (e : EntryIx) (s : State) : (enableEntry e s).fu = s.fu := by
  unfold enableEntry; split <;> simp
@[simp] theorem enableEntry_clu (e : EntryIx) (s : State) : (enableEntry e s).clu = s.clu := by
  unfold enableEntry; split <;> simp
@[simp] theorem enableEntry_mp (e : EntryIx) (s : State) : (enableEntry e s).mp = s.mp := by
  unfold enableEntry; split <;> simp
@[simp] theorem enableEntry_pending (e : EntryIx) (s : State) : (enableEntry e s).pending = s.pending := by
  unfold enableEntry; split <;> simp
@[simp] theorem enableEntry_freeUsed (e : EntryIx) (s : State) : (enableEntry e s).freeUsed = s.freeUsed := by
  unfold enableEntry; split <;> simp
@[simp] theorem countDeferrals_powered (e : EntryIx) (n : Nat) (s : State) : (countDeferrals e n s).powered = s.powered :=
  rfl
@[simp] theorem countDeferrals_up (e : EntryIx) (n : Nat) (s : State) : (countDeferrals e n s).up = s.up := rfl
@[simp] theorem countDeferrals_dp (e : EntryIx) (n : Nat) (s : State) : (countDeferrals e n s).dp = s.dp := rfl
@[simp] theorem countDeferrals_rmu (e : EntryIx) (n : Nat) (s : State) : (countDeferrals e n s).rmu = s.rmu := rfl
@[simp] theorem countDeferrals_hs (e : EntryIx) (n : Nat) (s : State) : (countDeferrals e n s).hs = s.hs := rfl
@[simp] theorem countDeferrals_gw (e : EntryIx) (n : Nat) (s : State) : (countDeferrals e n s).gw = s.gw := rfl
@[simp] theorem countDeferrals_ce (e : EntryIx) (n : Nat) (s : State) : (countDeferrals e n s).ce = s.ce := rfl
@[simp] theorem countDeferrals_mu (e : EntryIx) (n : Nat) (s : State) : (countDeferrals e n s).mu = s.mu := rfl
@[simp] theorem countDeferrals_clu (e : EntryIx) (n : Nat) (s : State) : (countDeferrals e n s).clu = s.clu := rfl
@[simp] theorem countDeferrals_mp (e : EntryIx) (n : Nat) (s : State) : (countDeferrals e n s).mp = s.mp := rfl
@[simp] theorem countDeferrals_pending (e : EntryIx) (n : Nat) (s : State) : (countDeferrals e n s).pending = s.pending :=
  rfl
@[simp] theorem countDeferrals_freeUsed (e : EntryIx) (n : Nat) (s : State) : (countDeferrals e n s).freeUsed = s.freeUsed :=
  rfl
@[simp] theorem disableHeld_powered (e : EntryIx) (s : State) : (disableHeld e s).powered = s.powered := by
  simp [disableHeld]
@[simp] theorem disableHeld_dp (e : EntryIx) (s : State) : (disableHeld e s).dp = s.dp := by simp [disableHeld]
@[simp] theorem disableHeld_rmu (e : EntryIx) (s : State) : (disableHeld e s).rmu = s.rmu := by simp [disableHeld]
@[simp] theorem disableHeld_ce (e : EntryIx) (s : State) : (disableHeld e s).ce = s.ce := by simp [disableHeld]
@[simp] theorem disableHeld_mu (e : EntryIx) (s : State) : (disableHeld e s).mu = s.mu := by simp [disableHeld]
@[simp] theorem disableHeld_clu (e : EntryIx) (s : State) : (disableHeld e s).clu = s.clu := by simp [disableHeld]
@[simp] theorem disableHeld_pending (e : EntryIx) (s : State) : (disableHeld e s).pending = s.pending := by
  simp [disableHeld]
@[simp] theorem disableHeld_freeUsed (e : EntryIx) (s : State) : (disableHeld e s).freeUsed = s.freeUsed := by
  simp [disableHeld]
@[simp] theorem disableMeter_powered (e : EntryIx) (s : State) : (disableMeter e s).powered = s.powered := rfl
@[simp] theorem disableMeter_up (e : EntryIx) (s : State) : (disableMeter e s).up = s.up := rfl
@[simp] theorem disableMeter_dp (e : EntryIx) (s : State) : (disableMeter e s).dp = s.dp := rfl
@[simp] theorem disableMeter_rmu (e : EntryIx) (s : State) : (disableMeter e s).rmu = s.rmu := rfl
@[simp] theorem disableMeter_hs (e : EntryIx) (s : State) : (disableMeter e s).hs = s.hs := rfl
@[simp] theorem disableMeter_gw (e : EntryIx) (s : State) : (disableMeter e s).gw = s.gw := rfl
@[simp] theorem disableMeter_ce (e : EntryIx) (s : State) : (disableMeter e s).ce = s.ce := rfl
@[simp] theorem disableMeter_fu (e : EntryIx) (s : State) : (disableMeter e s).fu = s.fu := rfl
@[simp] theorem disableMeter_clu (e : EntryIx) (s : State) : (disableMeter e s).clu = s.clu := rfl
@[simp] theorem disableMeter_mp (e : EntryIx) (s : State) : (disableMeter e s).mp = s.mp := rfl
@[simp] theorem disableMeter_pending (e : EntryIx) (s : State) : (disableMeter e s).pending = s.pending := rfl
@[simp] theorem disableMeter_freeUsed (e : EntryIx) (s : State) : (disableMeter e s).freeUsed = s.freeUsed := rfl
@[simp] theorem disableEntry_powered (e : EntryIx) (s : State) : (disableEntry e s).powered = s.powered := by
  unfold disableEntry; split <;> simp
@[simp] theorem disableEntry_dp (e : EntryIx) (s : State) : (disableEntry e s).dp = s.dp := by
  unfold disableEntry; split <;> simp
@[simp] theorem disableEntry_clu (e : EntryIx) (s : State) : (disableEntry e s).clu = s.clu := by
  unfold disableEntry; split <;> simp
@[simp] theorem disableEntry_pending (e : EntryIx) (s : State) : (disableEntry e s).pending = s.pending := by
  unfold disableEntry; split <;> simp
@[simp] theorem writeBurst_powered (e : EntryIx) (v : Nat) (s : State) : (writeBurst e v s).powered = s.powered := by
  unfold writeBurst; split <;> simp
@[simp] theorem writeBurst_up (e : EntryIx) (v : Nat) (s : State) : (writeBurst e v s).up = s.up := by
  unfold writeBurst; split <;> simp
@[simp] theorem writeBurst_dp (e : EntryIx) (v : Nat) (s : State) : (writeBurst e v s).dp = s.dp := by
  unfold writeBurst; split <;> simp
@[simp] theorem writeBurst_hs (e : EntryIx) (v : Nat) (s : State) : (writeBurst e v s).hs = s.hs := by
  unfold writeBurst; split <;> simp
@[simp] theorem writeBurst_gw (e : EntryIx) (v : Nat) (s : State) : (writeBurst e v s).gw = s.gw := by
  unfold writeBurst; split <;> simp
@[simp] theorem writeBurst_fu (e : EntryIx) (v : Nat) (s : State) : (writeBurst e v s).fu = s.fu := by
  unfold writeBurst; split <;> simp
@[simp] theorem writeBurst_mu (e : EntryIx) (v : Nat) (s : State) : (writeBurst e v s).mu = s.mu := by
  unfold writeBurst; split <;> simp
@[simp] theorem writeBurst_clu (e : EntryIx) (v : Nat) (s : State) : (writeBurst e v s).clu = s.clu := by
  unfold writeBurst; split <;> simp
@[simp] theorem writeBurst_mp (e : EntryIx) (v : Nat) (s : State) : (writeBurst e v s).mp = s.mp := by
  unfold writeBurst; split <;> simp
@[simp] theorem writeBurst_pending (e : EntryIx) (v : Nat) (s : State) : (writeBurst e v s).pending = s.pending := by
  unfold writeBurst; split <;> simp
@[simp] theorem writeBurst_freeUsed (e : EntryIx) (v : Nat) (s : State) : (writeBurst e v s).freeUsed = s.freeUsed := by
  unfold writeBurst; split <;> simp
@[simp] theorem writePortEpochBytes_powered (v : Nat) (s : State) : (writePortEpochBytes v s).powered = s.powered :=
  rfl
@[simp] theorem writePortEpochBytes_up (v : Nat) (s : State) : (writePortEpochBytes v s).up = s.up := rfl
@[simp] theorem writePortEpochBytes_dp (v : Nat) (s : State) : (writePortEpochBytes v s).dp = s.dp := rfl
@[simp] theorem writePortEpochBytes_rmu (v : Nat) (s : State) : (writePortEpochBytes v s).rmu = s.rmu := rfl
@[simp] theorem writePortEpochBytes_hs (v : Nat) (s : State) : (writePortEpochBytes v s).hs = s.hs := rfl
@[simp] theorem writePortEpochBytes_gw (v : Nat) (s : State) : (writePortEpochBytes v s).gw = s.gw := rfl
@[simp] theorem writePortEpochBytes_fu (v : Nat) (s : State) : (writePortEpochBytes v s).fu = s.fu := rfl
@[simp] theorem writePortEpochBytes_mu (v : Nat) (s : State) : (writePortEpochBytes v s).mu = s.mu := rfl
@[simp] theorem writePortEpochBytes_clu (v : Nat) (s : State) : (writePortEpochBytes v s).clu = s.clu := rfl
@[simp] theorem writePortEpochBytes_mp (v : Nat) (s : State) : (writePortEpochBytes v s).mp = s.mp := rfl
@[simp] theorem writePortEpochBytes_pending (v : Nat) (s : State) : (writePortEpochBytes v s).pending = s.pending :=
  rfl
@[simp] theorem writePortEpochBytes_freeUsed (v : Nat) (s : State) : (writePortEpochBytes v s).freeUsed = s.freeUsed :=
  rfl
@[simp] theorem writeMark_powered (m : PressureMark) (v : Nat) (s : State) : (writeMark m v s).powered = s.powered := by
  simp [writeMark]
@[simp] theorem writeMark_up (m : PressureMark) (v : Nat) (s : State) : (writeMark m v s).up = s.up := by
  simp [writeMark]
@[simp] theorem writeMark_dp (m : PressureMark) (v : Nat) (s : State) : (writeMark m v s).dp = s.dp := by
  simp [writeMark]
@[simp] theorem writeMark_rmu (m : PressureMark) (v : Nat) (s : State) : (writeMark m v s).rmu = s.rmu := by
  simp [writeMark]
@[simp] theorem writeMark_gw (m : PressureMark) (v : Nat) (s : State) : (writeMark m v s).gw = s.gw := by
  simp [writeMark]
@[simp] theorem writeMark_ce (m : PressureMark) (v : Nat) (s : State) : (writeMark m v s).ce = s.ce := by
  simp [writeMark]
@[simp] theorem writeMark_fu (m : PressureMark) (v : Nat) (s : State) : (writeMark m v s).fu = s.fu := by
  simp [writeMark]
@[simp] theorem writeMark_mu (m : PressureMark) (v : Nat) (s : State) : (writeMark m v s).mu = s.mu := by
  simp [writeMark]
@[simp] theorem writeMark_clu (m : PressureMark) (v : Nat) (s : State) : (writeMark m v s).clu = s.clu := by
  simp [writeMark]
@[simp] theorem writeMark_pending (m : PressureMark) (v : Nat) (s : State) : (writeMark m v s).pending = s.pending := by
  simp [writeMark]
@[simp] theorem writeMark_freeUsed (m : PressureMark) (v : Nat) (s : State) : (writeMark m v s).freeUsed = s.freeUsed := by
  simp [writeMark]
@[simp] theorem writeDirection_powered (d : PaceDirection) (s : State) : (writeDirection d s).powered = s.powered :=
  rfl
@[simp] theorem writeDirection_up (d : PaceDirection) (s : State) : (writeDirection d s).up = s.up := rfl
@[simp] theorem writeDirection_dp (d : PaceDirection) (s : State) : (writeDirection d s).dp = s.dp := rfl
@[simp] theorem writeDirection_rmu (d : PaceDirection) (s : State) : (writeDirection d s).rmu = s.rmu := rfl
@[simp] theorem writeDirection_hs (d : PaceDirection) (s : State) : (writeDirection d s).hs = s.hs := rfl
@[simp] theorem writeDirection_gw (d : PaceDirection) (s : State) : (writeDirection d s).gw = s.gw := rfl
@[simp] theorem writeDirection_ce (d : PaceDirection) (s : State) : (writeDirection d s).ce = s.ce := rfl
@[simp] theorem writeDirection_fu (d : PaceDirection) (s : State) : (writeDirection d s).fu = s.fu := rfl
@[simp] theorem writeDirection_mu (d : PaceDirection) (s : State) : (writeDirection d s).mu = s.mu := rfl
@[simp] theorem writeDirection_clu (d : PaceDirection) (s : State) : (writeDirection d s).clu = s.clu := rfl
@[simp] theorem writeDirection_pending (d : PaceDirection) (s : State) : (writeDirection d s).pending = s.pending :=
  rfl
@[simp] theorem writeDirection_freeUsed (d : PaceDirection) (s : State) : (writeDirection d s).freeUsed = s.freeUsed :=
  rfl
@[simp] theorem writeTriggerSource_powered (t : TriggerSource) (s : State) : (writeTriggerSource t s).powered = s.powered :=
  rfl
@[simp] theorem writeTriggerSource_up (t : TriggerSource) (s : State) : (writeTriggerSource t s).up = s.up := rfl
@[simp] theorem writeTriggerSource_dp (t : TriggerSource) (s : State) : (writeTriggerSource t s).dp = s.dp := rfl
@[simp] theorem writeTriggerSource_rmu (t : TriggerSource) (s : State) : (writeTriggerSource t s).rmu = s.rmu := rfl
@[simp] theorem writeTriggerSource_hs (t : TriggerSource) (s : State) : (writeTriggerSource t s).hs = s.hs := rfl
@[simp] theorem writeTriggerSource_gw (t : TriggerSource) (s : State) : (writeTriggerSource t s).gw = s.gw := rfl
@[simp] theorem writeTriggerSource_ce (t : TriggerSource) (s : State) : (writeTriggerSource t s).ce = s.ce := rfl
@[simp] theorem writeTriggerSource_fu (t : TriggerSource) (s : State) : (writeTriggerSource t s).fu = s.fu := rfl
@[simp] theorem writeTriggerSource_mu (t : TriggerSource) (s : State) : (writeTriggerSource t s).mu = s.mu := rfl
@[simp] theorem writeTriggerSource_mp (t : TriggerSource) (s : State) : (writeTriggerSource t s).mp = s.mp := rfl
@[simp] theorem writeTriggerSource_pending (t : TriggerSource) (s : State) : (writeTriggerSource t s).pending = s.pending :=
  rfl
@[simp] theorem writeTriggerSource_freeUsed (t : TriggerSource) (s : State) : (writeTriggerSource t s).freeUsed = s.freeUsed :=
  rfl
@[simp] theorem writeMask_powered (v : Word) (s : State) : (writeMask v s).powered = s.powered := rfl
@[simp] theorem writeMask_up (v : Word) (s : State) : (writeMask v s).up = s.up := rfl
@[simp] theorem writeMask_dp (v : Word) (s : State) : (writeMask v s).dp = s.dp := rfl
@[simp] theorem writeMask_rmu (v : Word) (s : State) : (writeMask v s).rmu = s.rmu := rfl
@[simp] theorem writeMask_hs (v : Word) (s : State) : (writeMask v s).hs = s.hs := rfl
@[simp] theorem writeMask_gw (v : Word) (s : State) : (writeMask v s).gw = s.gw := rfl
@[simp] theorem writeMask_ce (v : Word) (s : State) : (writeMask v s).ce = s.ce := rfl
@[simp] theorem writeMask_fu (v : Word) (s : State) : (writeMask v s).fu = s.fu := rfl
@[simp] theorem writeMask_mu (v : Word) (s : State) : (writeMask v s).mu = s.mu := rfl
@[simp] theorem writeMask_clu (v : Word) (s : State) : (writeMask v s).clu = s.clu := rfl
@[simp] theorem writeMask_pending (v : Word) (s : State) : (writeMask v s).pending = s.pending := rfl
@[simp] theorem writeMask_freeUsed (v : Word) (s : State) : (writeMask v s).freeUsed = s.freeUsed := rfl
@[simp] theorem setClassRecord_powered (c : SvcClass) (f : ClassRecord → ClassRecord) (s : State) : (setClassRecord c f s).powered = s.powered :=
  rfl
@[simp] theorem setClassRecord_up (c : SvcClass) (f : ClassRecord → ClassRecord) (s : State) : (setClassRecord c f s).up = s.up :=
  rfl
@[simp] theorem setClassRecord_dp (c : SvcClass) (f : ClassRecord → ClassRecord) (s : State) : (setClassRecord c f s).dp = s.dp :=
  rfl
@[simp] theorem setClassRecord_hs (c : SvcClass) (f : ClassRecord → ClassRecord) (s : State) : (setClassRecord c f s).hs = s.hs :=
  rfl
@[simp] theorem setClassRecord_gw (c : SvcClass) (f : ClassRecord → ClassRecord) (s : State) : (setClassRecord c f s).gw = s.gw :=
  rfl
@[simp] theorem setClassRecord_ce (c : SvcClass) (f : ClassRecord → ClassRecord) (s : State) : (setClassRecord c f s).ce = s.ce :=
  rfl
@[simp] theorem setClassRecord_fu (c : SvcClass) (f : ClassRecord → ClassRecord) (s : State) : (setClassRecord c f s).fu = s.fu :=
  rfl
@[simp] theorem setClassRecord_mu (c : SvcClass) (f : ClassRecord → ClassRecord) (s : State) : (setClassRecord c f s).mu = s.mu :=
  rfl
@[simp] theorem setClassRecord_clu (c : SvcClass) (f : ClassRecord → ClassRecord) (s : State) : (setClassRecord c f s).clu = s.clu :=
  rfl
@[simp] theorem setClassRecord_mp (c : SvcClass) (f : ClassRecord → ClassRecord) (s : State) : (setClassRecord c f s).mp = s.mp :=
  rfl
@[simp] theorem setClassRecord_pending (c : SvcClass) (f : ClassRecord → ClassRecord) (s : State) : (setClassRecord c f s).pending = s.pending :=
  rfl
@[simp] theorem setClassRecord_freeUsed (c : SvcClass) (f : ClassRecord → ClassRecord) (s : State) : (setClassRecord c f s).freeUsed = s.freeUsed :=
  rfl
@[simp] theorem setSlot_powered (i : Fin 16) (f : Slot → Slot) (s : State) : (setSlot i f s).powered = s.powered :=
  rfl
@[simp] theorem setSlot_up (i : Fin 16) (f : Slot → Slot) (s : State) : (setSlot i f s).up = s.up := rfl
@[simp] theorem setSlot_dp (i : Fin 16) (f : Slot → Slot) (s : State) : (setSlot i f s).dp = s.dp := rfl
@[simp] theorem setSlot_rmu (i : Fin 16) (f : Slot → Slot) (s : State) : (setSlot i f s).rmu = s.rmu := rfl
@[simp] theorem setSlot_hs (i : Fin 16) (f : Slot → Slot) (s : State) : (setSlot i f s).hs = s.hs := rfl
@[simp] theorem setSlot_ce (i : Fin 16) (f : Slot → Slot) (s : State) : (setSlot i f s).ce = s.ce := rfl
@[simp] theorem setSlot_fu (i : Fin 16) (f : Slot → Slot) (s : State) : (setSlot i f s).fu = s.fu := rfl
@[simp] theorem setSlot_mu (i : Fin 16) (f : Slot → Slot) (s : State) : (setSlot i f s).mu = s.mu := rfl
@[simp] theorem setSlot_clu (i : Fin 16) (f : Slot → Slot) (s : State) : (setSlot i f s).clu = s.clu := rfl
@[simp] theorem setSlot_mp (i : Fin 16) (f : Slot → Slot) (s : State) : (setSlot i f s).mp = s.mp := rfl
@[simp] theorem setSlot_pending (i : Fin 16) (f : Slot → Slot) (s : State) : (setSlot i f s).pending = s.pending :=
  rfl
@[simp] theorem setSlot_freeUsed (i : Fin 16) (f : Slot → Slot) (s : State) : (setSlot i f s).freeUsed = s.freeUsed :=
  rfl
@[simp] theorem setListField_powered (i : Fin 32) (f : ListField) (v : Word) (s : State) : (setListField i f v s).powered = s.powered :=
  rfl
@[simp] theorem setListField_up (i : Fin 32) (f : ListField) (v : Word) (s : State) : (setListField i f v s).up = s.up :=
  rfl
@[simp] theorem setListField_dp (i : Fin 32) (f : ListField) (v : Word) (s : State) : (setListField i f v s).dp = s.dp :=
  rfl
@[simp] theorem setListField_rmu (i : Fin 32) (f : ListField) (v : Word) (s : State) : (setListField i f v s).rmu = s.rmu :=
  rfl
@[simp] theorem setListField_hs (i : Fin 32) (f : ListField) (v : Word) (s : State) : (setListField i f v s).hs = s.hs :=
  rfl
@[simp] theorem setListField_gw (i : Fin 32) (f : ListField) (v : Word) (s : State) : (setListField i f v s).gw = s.gw :=
  rfl
@[simp] theorem setListField_ce (i : Fin 32) (f : ListField) (v : Word) (s : State) : (setListField i f v s).ce = s.ce :=
  rfl
@[simp] theorem setListField_fu (i : Fin 32) (f : ListField) (v : Word) (s : State) : (setListField i f v s).fu = s.fu :=
  rfl
@[simp] theorem setListField_mu (i : Fin 32) (f : ListField) (v : Word) (s : State) : (setListField i f v s).mu = s.mu :=
  rfl
@[simp] theorem setListField_mp (i : Fin 32) (f : ListField) (v : Word) (s : State) : (setListField i f v s).mp = s.mp :=
  rfl
@[simp] theorem setListField_pending (i : Fin 32) (f : ListField) (v : Word) (s : State) : (setListField i f v s).pending = s.pending :=
  rfl
@[simp] theorem setListField_freeUsed (i : Fin 32) (f : ListField) (v : Word) (s : State) : (setListField i f v s).freeUsed = s.freeUsed :=
  rfl

end Sys2Proof.Machine
end

