-- ==== Sys2Proof/Laws/FrameLinks.lean ====
section
/-! SUPPORT. Which parts of the state the link events, the mode commands and the soft reset leave alone: one lemma per
operation and part. -/

namespace Sys2Proof.Machine

@[simp] theorem upPortDown_powered (s : State) : (upPortDown s).powered = s.powered := by
  unfold upPortDown; simp
@[simp] theorem upPortDown_rmu (s : State) : (upPortDown s).rmu = s.rmu := by
  unfold upPortDown; simp
@[simp] theorem upPortDown_hs (s : State) : (upPortDown s).hs = s.hs := by
  unfold upPortDown; simp
@[simp] theorem upPortDown_gw (s : State) : (upPortDown s).gw = s.gw := by
  unfold upPortDown; simp
@[simp] theorem upPortDown_ce (s : State) : (upPortDown s).ce = s.ce := by
  unfold upPortDown; simp
@[simp] theorem upPortDown_fu (s : State) : (upPortDown s).fu = s.fu := by
  unfold upPortDown; simp
@[simp] theorem upPortDown_mu (s : State) : (upPortDown s).mu = s.mu := by
  unfold upPortDown; simp
@[simp] theorem upPortDown_clu (s : State) : (upPortDown s).clu = s.clu := by
  unfold upPortDown; simp
@[simp] theorem upPortDown_mp (s : State) : (upPortDown s).mp = s.mp := by
  unfold upPortDown; simp
@[simp] theorem upPortDown_pending (s : State) : (upPortDown s).pending = s.pending := by
  unfold upPortDown; simp
@[simp] theorem upPortDown_freeUsed (s : State) : (upPortDown s).freeUsed = s.freeUsed := by
  unfold upPortDown; simp
@[simp] theorem holdStoreUpDown_powered (s : State) : (holdStoreUpDown s).powered = s.powered := by
  simp [holdStoreUpDown]
@[simp] theorem holdStoreUpDown_up (s : State) : (holdStoreUpDown s).up = s.up := by simp [holdStoreUpDown]
@[simp] theorem holdStoreUpDown_dp (s : State) : (holdStoreUpDown s).dp = s.dp := by simp [holdStoreUpDown]
@[simp] theorem holdStoreUpDown_rmu (s : State) : (holdStoreUpDown s).rmu = s.rmu := by simp [holdStoreUpDown]
@[simp] theorem holdStoreUpDown_ce (s : State) : (holdStoreUpDown s).ce = s.ce := by simp [holdStoreUpDown]
@[simp] theorem holdStoreUpDown_fu (s : State) : (holdStoreUpDown s).fu = s.fu := by simp [holdStoreUpDown]
@[simp] theorem holdStoreUpDown_mu (s : State) : (holdStoreUpDown s).mu = s.mu := by simp [holdStoreUpDown]
@[simp] theorem holdStoreUpDown_clu (s : State) : (holdStoreUpDown s).clu = s.clu := by simp [holdStoreUpDown]
@[simp] theorem holdStoreUpDown_pending (s : State) : (holdStoreUpDown s).pending = s.pending := by
  simp [holdStoreUpDown]
@[simp] theorem holdStoreUpDown_freeUsed (s : State) : (holdStoreUpDown s).freeUsed = s.freeUsed := by
  simp [holdStoreUpDown]
@[simp] theorem releasedUpDown_powered (r : UpReception) (s : State) : (releasedUpDown r s).powered = s.powered := by
  unfold releasedUpDown; split <;> simp
@[simp] theorem releasedUpDown_rmu (r : UpReception) (s : State) : (releasedUpDown r s).rmu = s.rmu := by
  unfold releasedUpDown; split <;> simp
@[simp] theorem releasedUpDown_ce (r : UpReception) (s : State) : (releasedUpDown r s).ce = s.ce := by
  unfold releasedUpDown; split <;> simp
@[simp] theorem releasedUpDown_mu (r : UpReception) (s : State) : (releasedUpDown r s).mu = s.mu := by
  unfold releasedUpDown; split <;> simp
@[simp] theorem releasedUpDown_clu (r : UpReception) (s : State) : (releasedUpDown r s).clu = s.clu := by
  unfold releasedUpDown; split <;> simp
@[simp] theorem releasedUpDown_pending (r : UpReception) (s : State) : (releasedUpDown r s).pending = s.pending := by
  unfold releasedUpDown; split <;> simp
@[simp] theorem orphanAll_powered (s : State) : (orphanAll s).powered = s.powered := rfl
@[simp] theorem orphanAll_up (s : State) : (orphanAll s).up = s.up := rfl
@[simp] theorem orphanAll_dp (s : State) : (orphanAll s).dp = s.dp := rfl
@[simp] theorem orphanAll_rmu (s : State) : (orphanAll s).rmu = s.rmu := rfl
@[simp] theorem orphanAll_hs (s : State) : (orphanAll s).hs = s.hs := rfl
@[simp] theorem orphanAll_gw (s : State) : (orphanAll s).gw = s.gw := rfl
@[simp] theorem orphanAll_ce (s : State) : (orphanAll s).ce = s.ce := rfl
@[simp] theorem orphanAll_mu (s : State) : (orphanAll s).mu = s.mu := rfl
@[simp] theorem orphanAll_clu (s : State) : (orphanAll s).clu = s.clu := rfl
@[simp] theorem orphanAll_mp (s : State) : (orphanAll s).mp = s.mp := rfl
@[simp] theorem orphanAll_pending (s : State) : (orphanAll s).pending = s.pending := rfl
@[simp] theorem orphanAll_freeUsed (s : State) : (orphanAll s).freeUsed = s.freeUsed := rfl
@[simp] theorem creditReset_powered (s : State) : (creditReset s).powered = s.powered := by
  unfold creditReset; simp
@[simp] theorem creditReset_up (s : State) : (creditReset s).up = s.up := by
  unfold creditReset; simp
@[simp] theorem creditReset_dp (s : State) : (creditReset s).dp = s.dp := by
  unfold creditReset; simp
@[simp] theorem creditReset_rmu (s : State) : (creditReset s).rmu = s.rmu := by
  unfold creditReset; simp
@[simp] theorem creditReset_hs (s : State) : (creditReset s).hs = s.hs := by
  unfold creditReset; simp
@[simp] theorem creditReset_fu (s : State) : (creditReset s).fu = s.fu := by
  unfold creditReset; simp
@[simp] theorem creditReset_mu (s : State) : (creditReset s).mu = s.mu := by
  unfold creditReset; simp
@[simp] theorem creditReset_clu (s : State) : (creditReset s).clu = s.clu := by
  unfold creditReset; simp
@[simp] theorem creditReset_mp (s : State) : (creditReset s).mp = s.mp := by
  unfold creditReset; simp
@[simp] theorem creditReset_pending (s : State) : (creditReset s).pending = s.pending := by
  unfold creditReset; simp
@[simp] theorem creditReset_freeUsed (s : State) : (creditReset s).freeUsed = s.freeUsed := by
  unfold creditReset; simp
@[simp] theorem clearAccumulators_powered (s : State) : (clearAccumulators s).powered = s.powered := by
  simp [clearAccumulators]
@[simp] theorem clearAccumulators_up (s : State) : (clearAccumulators s).up = s.up := by simp [clearAccumulators]
@[simp] theorem clearAccumulators_dp (s : State) : (clearAccumulators s).dp = s.dp := by simp [clearAccumulators]
@[simp] theorem clearAccumulators_rmu (s : State) : (clearAccumulators s).rmu = s.rmu := by simp [clearAccumulators]
@[simp] theorem clearAccumulators_hs (s : State) : (clearAccumulators s).hs = s.hs := by simp [clearAccumulators]
@[simp] theorem clearAccumulators_gw (s : State) : (clearAccumulators s).gw = s.gw := by simp [clearAccumulators]
@[simp] theorem clearAccumulators_ce (s : State) : (clearAccumulators s).ce = s.ce := by simp [clearAccumulators]
@[simp] theorem clearAccumulators_fu (s : State) : (clearAccumulators s).fu = s.fu := by simp [clearAccumulators]
@[simp] theorem clearAccumulators_clu (s : State) : (clearAccumulators s).clu = s.clu := by simp [clearAccumulators]
@[simp] theorem clearAccumulators_mp (s : State) : (clearAccumulators s).mp = s.mp := by simp [clearAccumulators]
@[simp] theorem clearAccumulators_pending (s : State) : (clearAccumulators s).pending = s.pending := by
  simp [clearAccumulators]
@[simp] theorem clearAccumulators_freeUsed (s : State) : (clearAccumulators s).freeUsed = s.freeUsed := by
  simp [clearAccumulators]
@[simp] theorem clearPointers_powered (s : State) : (clearPointers s).powered = s.powered := rfl
@[simp] theorem clearPointers_up (s : State) : (clearPointers s).up = s.up := rfl
@[simp] theorem clearPointers_dp (s : State) : (clearPointers s).dp = s.dp := rfl
@[simp] theorem clearPointers_rmu (s : State) : (clearPointers s).rmu = s.rmu := rfl
@[simp] theorem clearPointers_hs (s : State) : (clearPointers s).hs = s.hs := rfl
@[simp] theorem clearPointers_ce (s : State) : (clearPointers s).ce = s.ce := rfl
@[simp] theorem clearPointers_fu (s : State) : (clearPointers s).fu = s.fu := rfl
@[simp] theorem clearPointers_mu (s : State) : (clearPointers s).mu = s.mu := rfl
@[simp] theorem clearPointers_clu (s : State) : (clearPointers s).clu = s.clu := rfl
@[simp] theorem clearPointers_mp (s : State) : (clearPointers s).mp = s.mp := rfl
@[simp] theorem clearPointers_pending (s : State) : (clearPointers s).pending = s.pending := rfl
@[simp] theorem clearPointers_freeUsed (s : State) : (clearPointers s).freeUsed = s.freeUsed := rfl
@[simp] theorem upLinkGoesDown_powered (s : State) : (upLinkGoesDown s).powered = s.powered := by
  simp [upLinkGoesDown]
@[simp] theorem upLinkGoesDown_rmu (s : State) : (upLinkGoesDown s).rmu = s.rmu := by simp [upLinkGoesDown]
@[simp] theorem upLinkGoesDown_clu (s : State) : (upLinkGoesDown s).clu = s.clu := by simp [upLinkGoesDown]
@[simp] theorem upLinkGoesDown_pending (s : State) : (upLinkGoesDown s).pending = s.pending := by
  simp [upLinkGoesDown]
@[simp] theorem advertiseUp_powered (s : State) : (advertiseUp s).powered = s.powered := by
  unfold advertiseUp; split <;> simp
@[simp] theorem advertiseUp_dp (s : State) : (advertiseUp s).dp = s.dp := by
  unfold advertiseUp; split <;> simp
@[simp] theorem advertiseUp_rmu (s : State) : (advertiseUp s).rmu = s.rmu := by
  unfold advertiseUp; split <;> simp
@[simp] theorem advertiseUp_hs (s : State) : (advertiseUp s).hs = s.hs := by
  unfold advertiseUp; split <;> simp
@[simp] theorem advertiseUp_gw (s : State) : (advertiseUp s).gw = s.gw := by
  unfold advertiseUp; split <;> simp
@[simp] theorem advertiseUp_ce (s : State) : (advertiseUp s).ce = s.ce := by
  unfold advertiseUp; split <;> simp
@[simp] theorem advertiseUp_fu (s : State) : (advertiseUp s).fu = s.fu := by
  unfold advertiseUp; split <;> simp
@[simp] theorem advertiseUp_mu (s : State) : (advertiseUp s).mu = s.mu := by
  unfold advertiseUp; split <;> simp
@[simp] theorem advertiseUp_clu (s : State) : (advertiseUp s).clu = s.clu := by
  unfold advertiseUp; split <;> simp
@[simp] theorem advertiseUp_mp (s : State) : (advertiseUp s).mp = s.mp := by
  unfold advertiseUp; split <;> simp
@[simp] theorem advertiseUp_pending (s : State) : (advertiseUp s).pending = s.pending := by
  unfold advertiseUp; split <;> simp
@[simp] theorem advertiseUp_freeUsed (s : State) : (advertiseUp s).freeUsed = s.freeUsed := by
  unfold advertiseUp; split <;> simp
@[simp] theorem upLinkComesUp_powered (s : State) : (upLinkComesUp s).powered = s.powered := by
  unfold upLinkComesUp; split <;> simp
@[simp] theorem upLinkComesUp_dp (s : State) : (upLinkComesUp s).dp = s.dp := by
  unfold upLinkComesUp; split <;> simp
@[simp] theorem upLinkComesUp_rmu (s : State) : (upLinkComesUp s).rmu = s.rmu := by
  unfold upLinkComesUp; split <;> simp
@[simp] theorem upLinkComesUp_hs (s : State) : (upLinkComesUp s).hs = s.hs := by
  unfold upLinkComesUp; split <;> simp
@[simp] theorem upLinkComesUp_gw (s : State) : (upLinkComesUp s).gw = s.gw := by
  unfold upLinkComesUp; split <;> simp
@[simp] theorem upLinkComesUp_ce (s : State) : (upLinkComesUp s).ce = s.ce := by
  unfold upLinkComesUp; split <;> simp
@[simp] theorem upLinkComesUp_fu (s : State) : (upLinkComesUp s).fu = s.fu := by
  unfold upLinkComesUp; split <;> simp
@[simp] theorem upLinkComesUp_mu (s : State) : (upLinkComesUp s).mu = s.mu := by
  unfold upLinkComesUp; split <;> simp
@[simp] theorem upLinkComesUp_clu (s : State) : (upLinkComesUp s).clu = s.clu := by
  unfold upLinkComesUp; split <;> simp
@[simp] theorem upLinkComesUp_mp (s : State) : (upLinkComesUp s).mp = s.mp := by
  unfold upLinkComesUp; split <;> simp
@[simp] theorem upLinkComesUp_pending (s : State) : (upLinkComesUp s).pending = s.pending := by
  unfold upLinkComesUp; split <;> simp
@[simp] theorem upLinkComesUp_freeUsed (s : State) : (upLinkComesUp s).freeUsed = s.freeUsed := by
  unfold upLinkComesUp; split <;> simp
@[simp] theorem downPortDown_powered (s : State) : (downPortDown s).powered = s.powered := rfl
@[simp] theorem downPortDown_up (s : State) : (downPortDown s).up = s.up := rfl
@[simp] theorem downPortDown_rmu (s : State) : (downPortDown s).rmu = s.rmu := rfl
@[simp] theorem downPortDown_hs (s : State) : (downPortDown s).hs = s.hs := rfl
@[simp] theorem downPortDown_gw (s : State) : (downPortDown s).gw = s.gw := rfl
@[simp] theorem downPortDown_ce (s : State) : (downPortDown s).ce = s.ce := rfl
@[simp] theorem downPortDown_fu (s : State) : (downPortDown s).fu = s.fu := rfl
@[simp] theorem downPortDown_mu (s : State) : (downPortDown s).mu = s.mu := rfl
@[simp] theorem downPortDown_clu (s : State) : (downPortDown s).clu = s.clu := rfl
@[simp] theorem downPortDown_mp (s : State) : (downPortDown s).mp = s.mp := rfl
@[simp] theorem downPortDown_pending (s : State) : (downPortDown s).pending = s.pending := rfl
@[simp] theorem downPortDown_freeUsed (s : State) : (downPortDown s).freeUsed = s.freeUsed := rfl
@[simp] theorem lanesDown_powered (s : State) : (lanesDown s).powered = s.powered := by
  unfold lanesDown; refine (foldl_keeps (fun x : State => x.powered) _ (fun _ _ => by split <;> simp) _ _).trans ?_; simp
@[simp] theorem lanesDown_up (s : State) : (lanesDown s).up = s.up := by
  unfold lanesDown; refine (foldl_keeps (fun x : State => x.up) _ (fun _ _ => by split <;> simp) _ _).trans ?_; simp
@[simp] theorem lanesDown_dp (s : State) : (lanesDown s).dp = s.dp := by
  unfold lanesDown; refine (foldl_keeps (fun x : State => x.dp) _ (fun _ _ => by split <;> simp) _ _).trans ?_; simp
@[simp] theorem lanesDown_rmu (s : State) : (lanesDown s).rmu = s.rmu := by
  unfold lanesDown; refine (foldl_keeps (fun x : State => x.rmu) _ (fun _ _ => by split <;> simp) _ _).trans ?_; simp
@[simp] theorem lanesDown_hs (s : State) : (lanesDown s).hs = s.hs := by
  unfold lanesDown; refine (foldl_keeps (fun x : State => x.hs) _ (fun _ _ => by split <;> simp) _ _).trans ?_; simp
@[simp] theorem lanesDown_ce (s : State) : (lanesDown s).ce = s.ce := by
  unfold lanesDown; refine (foldl_keeps (fun x : State => x.ce) _ (fun _ _ => by split <;> simp) _ _).trans ?_; simp
@[simp] theorem lanesDown_fu (s : State) : (lanesDown s).fu = s.fu := by
  unfold lanesDown; refine (foldl_keeps (fun x : State => x.fu) _ (fun _ _ => by split <;> simp) _ _).trans ?_; simp
@[simp] theorem lanesDown_mu (s : State) : (lanesDown s).mu = s.mu := by
  unfold lanesDown; refine (foldl_keeps (fun x : State => x.mu) _ (fun _ _ => by split <;> simp) _ _).trans ?_; simp
@[simp] theorem lanesDown_clu (s : State) : (lanesDown s).clu = s.clu := by
  unfold lanesDown; refine (foldl_keeps (fun x : State => x.clu) _ (fun _ _ => by split <;> simp) _ _).trans ?_; simp
@[simp] theorem lanesDown_mp (s : State) : (lanesDown s).mp = s.mp := by
  unfold lanesDown; refine (foldl_keeps (fun x : State => x.mp) _ (fun _ _ => by split <;> simp) _ _).trans ?_; simp
@[simp] theorem lanesDown_pending (s : State) : (lanesDown s).pending = s.pending := by
  unfold lanesDown; refine (foldl_keeps (fun x : State => x.pending) _ (fun _ _ => by split <;> simp) _ _).trans ?_; simp
@[simp] theorem lanesDown_freeUsed (s : State) : (lanesDown s).freeUsed = s.freeUsed := by
  unfold lanesDown; refine (foldl_keeps (fun x : State => x.freeUsed) _ (fun _ _ => by split <;> simp) _ _).trans ?_; simp
@[simp] theorem flightDown_powered (s : State) : (flightDown s).powered = s.powered := by
  unfold flightDown; rw [wakeIf_powered]; refine (foldl_keeps (fun x : State => x.powered) _ (fun _ _ => by simp) _ _).trans ?_; rfl
@[simp] theorem flightDown_dp (s : State) : (flightDown s).dp = s.dp := by
  unfold flightDown; rw [wakeIf_dp]; refine (foldl_keeps (fun x : State => x.dp) _ (fun _ _ => by simp) _ _).trans ?_; rfl
@[simp] theorem flightDown_rmu (s : State) : (flightDown s).rmu = s.rmu := by
  unfold flightDown; rw [wakeIf_rmu]; refine (foldl_keeps (fun x : State => x.rmu) _ (fun _ _ => by simp) _ _).trans ?_; rfl
@[simp] theorem flightDown_hs (s : State) : (flightDown s).hs = s.hs := by
  unfold flightDown; rw [wakeIf_hs]; refine (foldl_keeps (fun x : State => x.hs) _ (fun _ _ => by simp) _ _).trans ?_; rfl
@[simp] theorem flightDown_ce (s : State) : (flightDown s).ce = s.ce := by
  unfold flightDown; rw [wakeIf_ce]; refine (foldl_keeps (fun x : State => x.ce) _ (fun _ _ => by simp) _ _).trans ?_; rfl
@[simp] theorem flightDown_mu (s : State) : (flightDown s).mu = s.mu := by
  unfold flightDown; rw [wakeIf_mu]; refine (foldl_keeps (fun x : State => x.mu) _ (fun _ _ => by simp) _ _).trans ?_; rfl
@[simp] theorem flightDown_clu (s : State) : (flightDown s).clu = s.clu := by
  unfold flightDown; rw [wakeIf_clu]; refine (foldl_keeps (fun x : State => x.clu) _ (fun _ _ => by simp) _ _).trans ?_; rfl
@[simp] theorem flightDown_mp (s : State) : (flightDown s).mp = s.mp := by
  unfold flightDown; rw [wakeIf_mp]; refine (foldl_keeps (fun x : State => x.mp) _ (fun _ _ => by simp) _ _).trans ?_; rfl
@[simp] theorem flightDown_pending (s : State) : (flightDown s).pending = s.pending := by
  unfold flightDown; rw [wakeIf_pending]; refine (foldl_keeps (fun x : State => x.pending) _ (fun _ _ => by simp) _ _).trans ?_; rfl
@[simp] theorem flightDown_freeUsed (s : State) : (flightDown s).freeUsed = s.freeUsed := by
  unfold flightDown; rw [wakeIf_freeUsed]; refine (foldl_keeps (fun x : State => x.freeUsed) _ (fun _ _ => by simp) _ _).trans ?_; rfl
@[simp] theorem endTransmissions_powered (c : List Nat) (s : State) : (endTransmissions c s).powered = s.powered := by
  unfold endTransmissions; refine (foldl_keeps (fun x : State => x.powered) _ (fun _ _ => by simp) _ _).trans ?_; rfl
@[simp] theorem endTransmissions_up (c : List Nat) (s : State) : (endTransmissions c s).up = s.up := by
  unfold endTransmissions; refine (foldl_keeps (fun x : State => x.up) _ (fun _ _ => by simp) _ _).trans ?_; rfl
@[simp] theorem endTransmissions_dp (c : List Nat) (s : State) : (endTransmissions c s).dp = s.dp := by
  unfold endTransmissions; refine (foldl_keeps (fun x : State => x.dp) _ (fun _ _ => by simp) _ _).trans ?_; rfl
@[simp] theorem endTransmissions_rmu (c : List Nat) (s : State) : (endTransmissions c s).rmu = s.rmu := by
  unfold endTransmissions; refine (foldl_keeps (fun x : State => x.rmu) _ (fun _ _ => by simp) _ _).trans ?_; rfl
@[simp] theorem endTransmissions_gw (c : List Nat) (s : State) : (endTransmissions c s).gw = s.gw := by
  unfold endTransmissions; refine (foldl_keeps (fun x : State => x.gw) _ (fun _ _ => by simp) _ _).trans ?_; rfl
@[simp] theorem endTransmissions_ce (c : List Nat) (s : State) : (endTransmissions c s).ce = s.ce := by
  unfold endTransmissions; refine (foldl_keeps (fun x : State => x.ce) _ (fun _ _ => by simp) _ _).trans ?_; rfl
@[simp] theorem endTransmissions_fu (c : List Nat) (s : State) : (endTransmissions c s).fu = s.fu := by
  unfold endTransmissions; refine (foldl_keeps (fun x : State => x.fu) _ (fun _ _ => by simp) _ _).trans ?_; rfl
@[simp] theorem endTransmissions_mu (c : List Nat) (s : State) : (endTransmissions c s).mu = s.mu := by
  unfold endTransmissions; refine (foldl_keeps (fun x : State => x.mu) _ (fun _ _ => by simp) _ _).trans ?_; rfl
@[simp] theorem endTransmissions_clu (c : List Nat) (s : State) : (endTransmissions c s).clu = s.clu := by
  unfold endTransmissions; refine (foldl_keeps (fun x : State => x.clu) _ (fun _ _ => by simp) _ _).trans ?_; rfl
@[simp] theorem endTransmissions_pending (c : List Nat) (s : State) : (endTransmissions c s).pending = s.pending := by
  unfold endTransmissions; refine (foldl_keeps (fun x : State => x.pending) _ (fun _ _ => by simp) _ _).trans ?_; rfl
@[simp] theorem endTransmissions_freeUsed (c : List Nat) (s : State) : (endTransmissions c s).freeUsed = s.freeUsed := by
  unfold endTransmissions; refine (foldl_keeps (fun x : State => x.freeUsed) _ (fun _ _ => by simp) _ _).trans ?_; rfl
@[simp] theorem downLinkGoesDown_powered (s : State) : (downLinkGoesDown s).powered = s.powered := by
  simp [downLinkGoesDown]
@[simp] theorem downLinkGoesDown_rmu (s : State) : (downLinkGoesDown s).rmu = s.rmu := by simp [downLinkGoesDown]
@[simp] theorem downLinkGoesDown_ce (s : State) : (downLinkGoesDown s).ce = s.ce := by simp [downLinkGoesDown]
@[simp] theorem downLinkGoesDown_mu (s : State) : (downLinkGoesDown s).mu = s.mu := by simp [downLinkGoesDown]
@[simp] theorem downLinkGoesDown_clu (s : State) : (downLinkGoesDown s).clu = s.clu := by simp [downLinkGoesDown]
@[simp] theorem downLinkGoesDown_pending (s : State) : (downLinkGoesDown s).pending = s.pending := by
  simp [downLinkGoesDown]
@[simp] theorem downLinkGoesDown_freeUsed (s : State) : (downLinkGoesDown s).freeUsed = s.freeUsed := by
  simp [downLinkGoesDown]
@[simp] theorem downPortUp_powered (s : State) : (downPortUp s).powered = s.powered := rfl
@[simp] theorem downPortUp_up (s : State) : (downPortUp s).up = s.up := rfl
@[simp] theorem downPortUp_rmu (s : State) : (downPortUp s).rmu = s.rmu := rfl
@[simp] theorem downPortUp_hs (s : State) : (downPortUp s).hs = s.hs := rfl
@[simp] theorem downPortUp_gw (s : State) : (downPortUp s).gw = s.gw := rfl
@[simp] theorem downPortUp_ce (s : State) : (downPortUp s).ce = s.ce := rfl
@[simp] theorem downPortUp_fu (s : State) : (downPortUp s).fu = s.fu := rfl
@[simp] theorem downPortUp_mu (s : State) : (downPortUp s).mu = s.mu := rfl
@[simp] theorem downPortUp_clu (s : State) : (downPortUp s).clu = s.clu := rfl
@[simp] theorem downPortUp_mp (s : State) : (downPortUp s).mp = s.mp := rfl
@[simp] theorem downPortUp_pending (s : State) : (downPortUp s).pending = s.pending := rfl
@[simp] theorem downPortUp_freeUsed (s : State) : (downPortUp s).freeUsed = s.freeUsed := rfl
@[simp] theorem startLanes_powered (s : State) : (startLanes s).powered = s.powered := by
  unfold startLanes; refine (foldl_keeps (fun x : State => x.powered) _ (fun _ _ => by split <;> simp) _ _).trans ?_; simp
@[simp] theorem startLanes_up (s : State) : (startLanes s).up = s.up := by
  unfold startLanes; refine (foldl_keeps (fun x : State => x.up) _ (fun _ _ => by split <;> simp) _ _).trans ?_; simp
@[simp] theorem startLanes_dp (s : State) : (startLanes s).dp = s.dp := by
  unfold startLanes; refine (foldl_keeps (fun x : State => x.dp) _ (fun _ _ => by split <;> simp) _ _).trans ?_; simp
@[simp] theorem startLanes_rmu (s : State) : (startLanes s).rmu = s.rmu := by
  unfold startLanes; refine (foldl_keeps (fun x : State => x.rmu) _ (fun _ _ => by split <;> simp) _ _).trans ?_; simp
@[simp] theorem startLanes_hs (s : State) : (startLanes s).hs = s.hs := by
  unfold startLanes; refine (foldl_keeps (fun x : State => x.hs) _ (fun _ _ => by split <;> simp) _ _).trans ?_; simp
@[simp] theorem startLanes_ce (s : State) : (startLanes s).ce = s.ce := by
  unfold startLanes; refine (foldl_keeps (fun x : State => x.ce) _ (fun _ _ => by split <;> simp) _ _).trans ?_; simp
@[simp] theorem startLanes_fu (s : State) : (startLanes s).fu = s.fu := by
  unfold startLanes; refine (foldl_keeps (fun x : State => x.fu) _ (fun _ _ => by split <;> simp) _ _).trans ?_; simp
@[simp] theorem startLanes_mu (s : State) : (startLanes s).mu = s.mu := by
  unfold startLanes; refine (foldl_keeps (fun x : State => x.mu) _ (fun _ _ => by split <;> simp) _ _).trans ?_; simp
@[simp] theorem startLanes_clu (s : State) : (startLanes s).clu = s.clu := by
  unfold startLanes; refine (foldl_keeps (fun x : State => x.clu) _ (fun _ _ => by split <;> simp) _ _).trans ?_; simp
@[simp] theorem startLanes_mp (s : State) : (startLanes s).mp = s.mp := by
  unfold startLanes; refine (foldl_keeps (fun x : State => x.mp) _ (fun _ _ => by split <;> simp) _ _).trans ?_; simp
@[simp] theorem startLanes_pending (s : State) : (startLanes s).pending = s.pending := by
  unfold startLanes; refine (foldl_keeps (fun x : State => x.pending) _ (fun _ _ => by split <;> simp) _ _).trans ?_; simp
@[simp] theorem startLanes_freeUsed (s : State) : (startLanes s).freeUsed = s.freeUsed := by
  unfold startLanes; refine (foldl_keeps (fun x : State => x.freeUsed) _ (fun _ _ => by split <;> simp) _ _).trans ?_; simp
@[simp] theorem downLinkComesUp_powered (s : State) : (downLinkComesUp s).powered = s.powered := by
  unfold downLinkComesUp; split <;> simp
@[simp] theorem downLinkComesUp_up (s : State) : (downLinkComesUp s).up = s.up := by
  unfold downLinkComesUp; split <;> simp
@[simp] theorem downLinkComesUp_rmu (s : State) : (downLinkComesUp s).rmu = s.rmu := by
  unfold downLinkComesUp; split <;> simp
@[simp] theorem downLinkComesUp_hs (s : State) : (downLinkComesUp s).hs = s.hs := by
  unfold downLinkComesUp; split <;> simp
@[simp] theorem downLinkComesUp_ce (s : State) : (downLinkComesUp s).ce = s.ce := by
  unfold downLinkComesUp; split <;> simp
@[simp] theorem downLinkComesUp_fu (s : State) : (downLinkComesUp s).fu = s.fu := by
  unfold downLinkComesUp; split <;> simp
@[simp] theorem downLinkComesUp_mu (s : State) : (downLinkComesUp s).mu = s.mu := by
  unfold downLinkComesUp; split <;> simp
@[simp] theorem downLinkComesUp_clu (s : State) : (downLinkComesUp s).clu = s.clu := by
  unfold downLinkComesUp; split <;> simp
@[simp] theorem downLinkComesUp_mp (s : State) : (downLinkComesUp s).mp = s.mp := by
  unfold downLinkComesUp; split <;> simp
@[simp] theorem downLinkComesUp_pending (s : State) : (downLinkComesUp s).pending = s.pending := by
  unfold downLinkComesUp; split <;> simp
@[simp] theorem downLinkComesUp_freeUsed (s : State) : (downLinkComesUp s).freeUsed = s.freeUsed := by
  unfold downLinkComesUp; split <;> simp
@[simp] theorem setMode_powered (m : Mode) (s : State) : (setMode m s).powered = s.powered := rfl
@[simp] theorem setMode_up (m : Mode) (s : State) : (setMode m s).up = s.up := rfl
@[simp] theorem setMode_dp (m : Mode) (s : State) : (setMode m s).dp = s.dp := rfl
@[simp] theorem setMode_rmu (m : Mode) (s : State) : (setMode m s).rmu = s.rmu := rfl
@[simp] theorem setMode_hs (m : Mode) (s : State) : (setMode m s).hs = s.hs := rfl
@[simp] theorem setMode_gw (m : Mode) (s : State) : (setMode m s).gw = s.gw := rfl
@[simp] theorem setMode_ce (m : Mode) (s : State) : (setMode m s).ce = s.ce := rfl
@[simp] theorem setMode_fu (m : Mode) (s : State) : (setMode m s).fu = s.fu := rfl
@[simp] theorem setMode_mu (m : Mode) (s : State) : (setMode m s).mu = s.mu := rfl
@[simp] theorem setMode_clu (m : Mode) (s : State) : (setMode m s).clu = s.clu := rfl
@[simp] theorem setMode_pending (m : Mode) (s : State) : (setMode m s).pending = s.pending := rfl
@[simp] theorem setMode_freeUsed (m : Mode) (s : State) : (setMode m s).freeUsed = s.freeUsed := rfl
@[simp] theorem answerMode_powered (c : AnswerCode) (s : State) : (answerMode c s).powered = s.powered := rfl
@[simp] theorem answerMode_up (c : AnswerCode) (s : State) : (answerMode c s).up = s.up := rfl
@[simp] theorem answerMode_dp (c : AnswerCode) (s : State) : (answerMode c s).dp = s.dp := rfl
@[simp] theorem answerMode_rmu (c : AnswerCode) (s : State) : (answerMode c s).rmu = s.rmu := rfl
@[simp] theorem answerMode_hs (c : AnswerCode) (s : State) : (answerMode c s).hs = s.hs := rfl
@[simp] theorem answerMode_gw (c : AnswerCode) (s : State) : (answerMode c s).gw = s.gw := rfl
@[simp] theorem answerMode_ce (c : AnswerCode) (s : State) : (answerMode c s).ce = s.ce := rfl
@[simp] theorem answerMode_fu (c : AnswerCode) (s : State) : (answerMode c s).fu = s.fu := rfl
@[simp] theorem answerMode_mu (c : AnswerCode) (s : State) : (answerMode c s).mu = s.mu := rfl
@[simp] theorem answerMode_clu (c : AnswerCode) (s : State) : (answerMode c s).clu = s.clu := rfl
@[simp] theorem answerMode_pending (c : AnswerCode) (s : State) : (answerMode c s).pending = s.pending := rfl
@[simp] theorem answerMode_freeUsed (c : AnswerCode) (s : State) : (answerMode c s).freeUsed = s.freeUsed := rfl
@[simp] theorem passDrainGrant_powered (s : State) : (passDrainGrant s).powered = s.powered := by
  unfold passDrainGrant; dsimp only; (repeat' split) <;> simp
@[simp] theorem passDrainGrant_up (s : State) : (passDrainGrant s).up = s.up := by
  unfold passDrainGrant; dsimp only; (repeat' split) <;> simp
@[simp] theorem passDrainGrant_dp (s : State) : (passDrainGrant s).dp = s.dp := by
  unfold passDrainGrant; dsimp only; (repeat' split) <;> simp
@[simp] theorem passDrainGrant_rmu (s : State) : (passDrainGrant s).rmu = s.rmu := by
  unfold passDrainGrant; dsimp only; (repeat' split) <;> simp
@[simp] theorem passDrainGrant_hs (s : State) : (passDrainGrant s).hs = s.hs := by
  unfold passDrainGrant; dsimp only; (repeat' split) <;> simp
@[simp] theorem passDrainGrant_ce (s : State) : (passDrainGrant s).ce = s.ce := by
  unfold passDrainGrant; dsimp only; (repeat' split) <;> simp
@[simp] theorem passDrainGrant_fu (s : State) : (passDrainGrant s).fu = s.fu := by
  unfold passDrainGrant; dsimp only; (repeat' split) <;> simp
@[simp] theorem passDrainGrant_mu (s : State) : (passDrainGrant s).mu = s.mu := by
  unfold passDrainGrant; dsimp only; (repeat' split) <;> simp
@[simp] theorem passDrainGrant_clu (s : State) : (passDrainGrant s).clu = s.clu := by
  unfold passDrainGrant; dsimp only; (repeat' split) <;> simp
@[simp] theorem passDrainGrant_mp (s : State) : (passDrainGrant s).mp = s.mp := by
  unfold passDrainGrant; dsimp only; (repeat' split) <;> simp
@[simp] theorem passDrainGrant_pending (s : State) : (passDrainGrant s).pending = s.pending := by
  unfold passDrainGrant; dsimp only; (repeat' split) <;> simp
@[simp] theorem passDrainGrant_freeUsed (s : State) : (passDrainGrant s).freeUsed = s.freeUsed := by
  unfold passDrainGrant; dsimp only; (repeat' split) <;> simp
@[simp] theorem wheelEngage_powered (s : State) : (wheelEngage s).powered = s.powered := by simp [wheelEngage]
@[simp] theorem wheelEngage_up (s : State) : (wheelEngage s).up = s.up := by simp [wheelEngage]
@[simp] theorem wheelEngage_dp (s : State) : (wheelEngage s).dp = s.dp := by simp [wheelEngage]
@[simp] theorem wheelEngage_rmu (s : State) : (wheelEngage s).rmu = s.rmu := by simp [wheelEngage]
@[simp] theorem wheelEngage_hs (s : State) : (wheelEngage s).hs = s.hs := by simp [wheelEngage]
@[simp] theorem wheelEngage_ce (s : State) : (wheelEngage s).ce = s.ce := by simp [wheelEngage]
@[simp] theorem wheelEngage_fu (s : State) : (wheelEngage s).fu = s.fu := by simp [wheelEngage]
@[simp] theorem wheelEngage_mu (s : State) : (wheelEngage s).mu = s.mu := by simp [wheelEngage]
@[simp] theorem wheelEngage_clu (s : State) : (wheelEngage s).clu = s.clu := by simp [wheelEngage]
@[simp] theorem wheelEngage_mp (s : State) : (wheelEngage s).mp = s.mp := by simp [wheelEngage]
@[simp] theorem wheelEngage_pending (s : State) : (wheelEngage s).pending = s.pending := by simp [wheelEngage]
@[simp] theorem wheelEngage_freeUsed (s : State) : (wheelEngage s).freeUsed = s.freeUsed := by simp [wheelEngage]
@[simp] theorem engage_powered (s : State) : (engage s).powered = s.powered := by
  unfold engage; split <;> simp
@[simp] theorem engage_up (s : State) : (engage s).up = s.up := by
  unfold engage; split <;> simp
@[simp] theorem engage_dp (s : State) : (engage s).dp = s.dp := by
  unfold engage; split <;> simp
@[simp] theorem engage_rmu (s : State) : (engage s).rmu = s.rmu := by
  unfold engage; split <;> simp
@[simp] theorem engage_hs (s : State) : (engage s).hs = s.hs := by
  unfold engage; split <;> simp
@[simp] theorem engage_ce (s : State) : (engage s).ce = s.ce := by
  unfold engage; split <;> simp
@[simp] theorem engage_fu (s : State) : (engage s).fu = s.fu := by
  unfold engage; split <;> simp
@[simp] theorem engage_mu (s : State) : (engage s).mu = s.mu := by
  unfold engage; split <;> simp
@[simp] theorem engage_clu (s : State) : (engage s).clu = s.clu := by
  unfold engage; split <;> simp
@[simp] theorem engage_pending (s : State) : (engage s).pending = s.pending := by
  unfold engage; split <;> simp
@[simp] theorem engage_freeUsed (s : State) : (engage s).freeUsed = s.freeUsed := by
  unfold engage; split <;> simp
@[simp] theorem beginTakeOver_powered (s : State) : (beginTakeOver s).powered = s.powered := by
  unfold beginTakeOver; split <;> simp
@[simp] theorem beginTakeOver_up (s : State) : (beginTakeOver s).up = s.up := by
  unfold beginTakeOver; split <;> simp
@[simp] theorem beginTakeOver_dp (s : State) : (beginTakeOver s).dp = s.dp := by
  unfold beginTakeOver; split <;> simp
@[simp] theorem beginTakeOver_rmu (s : State) : (beginTakeOver s).rmu = s.rmu := by
  unfold beginTakeOver; split <;> simp
@[simp] theorem beginTakeOver_hs (s : State) : (beginTakeOver s).hs = s.hs := by
  unfold beginTakeOver; split <;> simp
@[simp] theorem beginTakeOver_ce (s : State) : (beginTakeOver s).ce = s.ce := by
  unfold beginTakeOver; split <;> simp
@[simp] theorem beginTakeOver_fu (s : State) : (beginTakeOver s).fu = s.fu := by
  unfold beginTakeOver; split <;> simp
@[simp] theorem beginTakeOver_mu (s : State) : (beginTakeOver s).mu = s.mu := by
  unfold beginTakeOver; split <;> simp
@[simp] theorem beginTakeOver_clu (s : State) : (beginTakeOver s).clu = s.clu := by
  unfold beginTakeOver; split <;> simp
@[simp] theorem beginTakeOver_mp (s : State) : (beginTakeOver s).mp = s.mp := by
  unfold beginTakeOver; split <;> simp
@[simp] theorem beginTakeOver_pending (s : State) : (beginTakeOver s).pending = s.pending := by
  unfold beginTakeOver; split <;> simp
@[simp] theorem beginTakeOver_freeUsed (s : State) : (beginTakeOver s).freeUsed = s.freeUsed := by
  unfold beginTakeOver; split <;> simp
@[simp] theorem wheelBypass_powered (s : State) : (wheelBypass s).powered = s.powered := by
  unfold wheelBypass; simp
@[simp] theorem wheelBypass_up (s : State) : (wheelBypass s).up = s.up := by
  unfold wheelBypass; simp
@[simp] theorem wheelBypass_dp (s : State) : (wheelBypass s).dp = s.dp := by
  unfold wheelBypass; simp
@[simp] theorem wheelBypass_rmu (s : State) : (wheelBypass s).rmu = s.rmu := by
  unfold wheelBypass; simp
@[simp] theorem wheelBypass_hs (s : State) : (wheelBypass s).hs = s.hs := by
  unfold wheelBypass; simp
@[simp] theorem wheelBypass_ce (s : State) : (wheelBypass s).ce = s.ce := by
  unfold wheelBypass; simp
@[simp] theorem wheelBypass_fu (s : State) : (wheelBypass s).fu = s.fu := by
  unfold wheelBypass; simp
@[simp] theorem wheelBypass_mu (s : State) : (wheelBypass s).mu = s.mu := by
  unfold wheelBypass; simp
@[simp] theorem wheelBypass_clu (s : State) : (wheelBypass s).clu = s.clu := by
  unfold wheelBypass; simp
@[simp] theorem wheelBypass_mp (s : State) : (wheelBypass s).mp = s.mp := by
  unfold wheelBypass; simp
@[simp] theorem wheelBypass_pending (s : State) : (wheelBypass s).pending = s.pending := by
  unfold wheelBypass; simp
@[simp] theorem wheelBypass_freeUsed (s : State) : (wheelBypass s).freeUsed = s.freeUsed := by
  unfold wheelBypass; simp
@[simp] theorem bypass_powered (s : State) : (bypass s).powered = s.powered := by
  unfold bypass; split <;> simp
@[simp] theorem bypass_up (s : State) : (bypass s).up = s.up := by
  unfold bypass; split <;> simp
@[simp] theorem bypass_dp (s : State) : (bypass s).dp = s.dp := by
  unfold bypass; split <;> simp
@[simp] theorem bypass_rmu (s : State) : (bypass s).rmu = s.rmu := by
  unfold bypass; split <;> simp
@[simp] theorem bypass_hs (s : State) : (bypass s).hs = s.hs := by
  unfold bypass; split <;> simp
@[simp] theorem bypass_ce (s : State) : (bypass s).ce = s.ce := by
  unfold bypass; split <;> simp
@[simp] theorem bypass_fu (s : State) : (bypass s).fu = s.fu := by
  unfold bypass; split <;> simp
@[simp] theorem bypass_mu (s : State) : (bypass s).mu = s.mu := by
  unfold bypass; split <;> simp
@[simp] theorem bypass_clu (s : State) : (bypass s).clu = s.clu := by
  unfold bypass; split <;> simp
@[simp] theorem bypass_pending (s : State) : (bypass s).pending = s.pending := by
  unfold bypass; split <;> simp
@[simp] theorem bypass_freeUsed (s : State) : (bypass s).freeUsed = s.freeUsed := by
  unfold bypass; split <;> simp
@[simp] theorem wheelHalt_powered (s : State) : (wheelHalt s).powered = s.powered := by
  unfold wheelHalt; refine (foldl_keeps (fun x : State => x.powered) _ (fun _ _ => by split <;> simp) _ _).trans ?_; rfl
@[simp] theorem wheelHalt_up (s : State) : (wheelHalt s).up = s.up := by
  unfold wheelHalt; refine (foldl_keeps (fun x : State => x.up) _ (fun _ _ => by split <;> simp) _ _).trans ?_; rfl
@[simp] theorem wheelHalt_dp (s : State) : (wheelHalt s).dp = s.dp := by
  unfold wheelHalt; refine (foldl_keeps (fun x : State => x.dp) _ (fun _ _ => by split <;> simp) _ _).trans ?_; rfl
@[simp] theorem wheelHalt_rmu (s : State) : (wheelHalt s).rmu = s.rmu := by
  unfold wheelHalt; refine (foldl_keeps (fun x : State => x.rmu) _ (fun _ _ => by split <;> simp) _ _).trans ?_; rfl
@[simp] theorem wheelHalt_hs (s : State) : (wheelHalt s).hs = s.hs := by
  unfold wheelHalt; refine (foldl_keeps (fun x : State => x.hs) _ (fun _ _ => by split <;> simp) _ _).trans ?_; rfl
@[simp] theorem wheelHalt_ce (s : State) : (wheelHalt s).ce = s.ce := by
  unfold wheelHalt; refine (foldl_keeps (fun x : State => x.ce) _ (fun _ _ => by split <;> simp) _ _).trans ?_; rfl
@[simp] theorem wheelHalt_fu (s : State) : (wheelHalt s).fu = s.fu := by
  unfold wheelHalt; refine (foldl_keeps (fun x : State => x.fu) _ (fun _ _ => by split <;> simp) _ _).trans ?_; rfl
@[simp] theorem wheelHalt_mu (s : State) : (wheelHalt s).mu = s.mu := by
  unfold wheelHalt; refine (foldl_keeps (fun x : State => x.mu) _ (fun _ _ => by split <;> simp) _ _).trans ?_; rfl
@[simp] theorem wheelHalt_clu (s : State) : (wheelHalt s).clu = s.clu := by
  unfold wheelHalt; refine (foldl_keeps (fun x : State => x.clu) _ (fun _ _ => by split <;> simp) _ _).trans ?_; rfl
@[simp] theorem wheelHalt_mp (s : State) : (wheelHalt s).mp = s.mp := by
  unfold wheelHalt; refine (foldl_keeps (fun x : State => x.mp) _ (fun _ _ => by split <;> simp) _ _).trans ?_; rfl
@[simp] theorem wheelHalt_pending (s : State) : (wheelHalt s).pending = s.pending := by
  unfold wheelHalt; refine (foldl_keeps (fun x : State => x.pending) _ (fun _ _ => by split <;> simp) _ _).trans ?_; rfl
@[simp] theorem wheelHalt_freeUsed (s : State) : (wheelHalt s).freeUsed = s.freeUsed := by
  unfold wheelHalt; refine (foldl_keeps (fun x : State => x.freeUsed) _ (fun _ _ => by split <;> simp) _ _).trans ?_; rfl
@[simp] theorem haltFrom_powered (m : RunMode) (s : State) : (haltFrom m s).powered = s.powered := by simp [haltFrom]
@[simp] theorem haltFrom_up (m : RunMode) (s : State) : (haltFrom m s).up = s.up := by simp [haltFrom]
@[simp] theorem haltFrom_dp (m : RunMode) (s : State) : (haltFrom m s).dp = s.dp := by simp [haltFrom]
@[simp] theorem haltFrom_rmu (m : RunMode) (s : State) : (haltFrom m s).rmu = s.rmu := by simp [haltFrom]
@[simp] theorem haltFrom_hs (m : RunMode) (s : State) : (haltFrom m s).hs = s.hs := by simp [haltFrom]
@[simp] theorem haltFrom_ce (m : RunMode) (s : State) : (haltFrom m s).ce = s.ce := by simp [haltFrom]
@[simp] theorem haltFrom_fu (m : RunMode) (s : State) : (haltFrom m s).fu = s.fu := by simp [haltFrom]
@[simp] theorem haltFrom_mu (m : RunMode) (s : State) : (haltFrom m s).mu = s.mu := by simp [haltFrom]
@[simp] theorem haltFrom_clu (m : RunMode) (s : State) : (haltFrom m s).clu = s.clu := by simp [haltFrom]
@[simp] theorem haltFrom_pending (m : RunMode) (s : State) : (haltFrom m s).pending = s.pending := by simp [haltFrom]
@[simp] theorem haltFrom_freeUsed (m : RunMode) (s : State) : (haltFrom m s).freeUsed = s.freeUsed := by
  simp [haltFrom]
@[simp] theorem halt_powered (s : State) : (halt s).powered = s.powered := by
  unfold halt; split <;> simp
@[simp] theorem halt_up (s : State) : (halt s).up = s.up := by
  unfold halt; split <;> simp
@[simp] theorem halt_dp (s : State) : (halt s).dp = s.dp := by
  unfold halt; split <;> simp
@[simp] theorem halt_rmu (s : State) : (halt s).rmu = s.rmu := by
  unfold halt; split <;> simp
@[simp] theorem halt_hs (s : State) : (halt s).hs = s.hs := by
  unfold halt; split <;> simp
@[simp] theorem halt_ce (s : State) : (halt s).ce = s.ce := by
  unfold halt; split <;> simp
@[simp] theorem halt_fu (s : State) : (halt s).fu = s.fu := by
  unfold halt; split <;> simp
@[simp] theorem halt_mu (s : State) : (halt s).mu = s.mu := by
  unfold halt; split <;> simp
@[simp] theorem halt_clu (s : State) : (halt s).clu = s.clu := by
  unfold halt; split <;> simp
@[simp] theorem halt_pending (s : State) : (halt s).pending = s.pending := by
  unfold halt; split <;> simp
@[simp] theorem halt_freeUsed (s : State) : (halt s).freeUsed = s.freeUsed := by
  unfold halt; split <;> simp
@[simp] theorem rejoinPair_powered (s : State) : (rejoinPair s).powered = s.powered := by
  unfold rejoinPair; split
  · refine (foldl_keeps (fun x : State => x.powered) _ (fun _ _ => by simp) _ _).trans ?_; rfl
  · rfl
@[simp] theorem rejoinPair_up (s : State) : (rejoinPair s).up = s.up := by
  unfold rejoinPair; split
  · refine (foldl_keeps (fun x : State => x.up) _ (fun _ _ => by simp) _ _).trans ?_; rfl
  · rfl
@[simp] theorem rejoinPair_dp (s : State) : (rejoinPair s).dp = s.dp := by
  unfold rejoinPair; split
  · refine (foldl_keeps (fun x : State => x.dp) _ (fun _ _ => by simp) _ _).trans ?_; rfl
  · rfl
@[simp] theorem rejoinPair_rmu (s : State) : (rejoinPair s).rmu = s.rmu := by
  unfold rejoinPair; split
  · refine (foldl_keeps (fun x : State => x.rmu) _ (fun _ _ => by simp) _ _).trans ?_; rfl
  · rfl
@[simp] theorem rejoinPair_hs (s : State) : (rejoinPair s).hs = s.hs := by
  unfold rejoinPair; split
  · refine (foldl_keeps (fun x : State => x.hs) _ (fun _ _ => by simp) _ _).trans ?_; rfl
  · rfl
@[simp] theorem rejoinPair_ce (s : State) : (rejoinPair s).ce = s.ce := by
  unfold rejoinPair; split
  · refine (foldl_keeps (fun x : State => x.ce) _ (fun _ _ => by simp) _ _).trans ?_; rfl
  · rfl
@[simp] theorem rejoinPair_fu (s : State) : (rejoinPair s).fu = s.fu := by
  unfold rejoinPair; split
  · refine (foldl_keeps (fun x : State => x.fu) _ (fun _ _ => by simp) _ _).trans ?_; rfl
  · rfl
@[simp] theorem rejoinPair_mu (s : State) : (rejoinPair s).mu = s.mu := by
  unfold rejoinPair; split
  · refine (foldl_keeps (fun x : State => x.mu) _ (fun _ _ => by simp) _ _).trans ?_; rfl
  · rfl
@[simp] theorem rejoinPair_clu (s : State) : (rejoinPair s).clu = s.clu := by
  unfold rejoinPair; split
  · refine (foldl_keeps (fun x : State => x.clu) _ (fun _ _ => by simp) _ _).trans ?_; rfl
  · rfl
@[simp] theorem rejoinPair_mp (s : State) : (rejoinPair s).mp = s.mp := by
  unfold rejoinPair; split
  · refine (foldl_keeps (fun x : State => x.mp) _ (fun _ _ => by simp) _ _).trans ?_; rfl
  · rfl
@[simp] theorem rejoinPair_pending (s : State) : (rejoinPair s).pending = s.pending := by
  unfold rejoinPair; split
  · refine (foldl_keeps (fun x : State => x.pending) _ (fun _ _ => by simp) _ _).trans ?_; rfl
  · rfl
@[simp] theorem rejoinPair_freeUsed (s : State) : (rejoinPair s).freeUsed = s.freeUsed := by
  unfold rejoinPair; split
  · refine (foldl_keeps (fun x : State => x.freeUsed) _ (fun _ _ => by simp) _ _).trans ?_; rfl
  · rfl
@[simp] theorem resumeWaiting_powered (s : State) : (resumeWaiting s).powered = s.powered := by
  unfold resumeWaiting; refine (foldl_keeps (fun x : State => x.powered) _ (fun _ _ => by simp) _ _).trans ?_; rfl
@[simp] theorem resumeWaiting_up (s : State) : (resumeWaiting s).up = s.up := by
  unfold resumeWaiting; refine (foldl_keeps (fun x : State => x.up) _ (fun _ _ => by simp) _ _).trans ?_; rfl
@[simp] theorem resumeWaiting_dp (s : State) : (resumeWaiting s).dp = s.dp := by
  unfold resumeWaiting; refine (foldl_keeps (fun x : State => x.dp) _ (fun _ _ => by simp) _ _).trans ?_; rfl
@[simp] theorem resumeWaiting_rmu (s : State) : (resumeWaiting s).rmu = s.rmu := by
  unfold resumeWaiting; refine (foldl_keeps (fun x : State => x.rmu) _ (fun _ _ => by simp) _ _).trans ?_; rfl
@[simp] theorem resumeWaiting_hs (s : State) : (resumeWaiting s).hs = s.hs := by
  unfold resumeWaiting; refine (foldl_keeps (fun x : State => x.hs) _ (fun _ _ => by simp) _ _).trans ?_; rfl
@[simp] theorem resumeWaiting_ce (s : State) : (resumeWaiting s).ce = s.ce := by
  unfold resumeWaiting; refine (foldl_keeps (fun x : State => x.ce) _ (fun _ _ => by simp) _ _).trans ?_; rfl
@[simp] theorem resumeWaiting_fu (s : State) : (resumeWaiting s).fu = s.fu := by
  unfold resumeWaiting; refine (foldl_keeps (fun x : State => x.fu) _ (fun _ _ => by simp) _ _).trans ?_; rfl
@[simp] theorem resumeWaiting_mu (s : State) : (resumeWaiting s).mu = s.mu := by
  unfold resumeWaiting; refine (foldl_keeps (fun x : State => x.mu) _ (fun _ _ => by simp) _ _).trans ?_; rfl
@[simp] theorem resumeWaiting_clu (s : State) : (resumeWaiting s).clu = s.clu := by
  unfold resumeWaiting; refine (foldl_keeps (fun x : State => x.clu) _ (fun _ _ => by simp) _ _).trans ?_; rfl
@[simp] theorem resumeWaiting_mp (s : State) : (resumeWaiting s).mp = s.mp := by
  unfold resumeWaiting; refine (foldl_keeps (fun x : State => x.mp) _ (fun _ _ => by simp) _ _).trans ?_; rfl
@[simp] theorem resumeWaiting_pending (s : State) : (resumeWaiting s).pending = s.pending := by
  unfold resumeWaiting; refine (foldl_keeps (fun x : State => x.pending) _ (fun _ _ => by simp) _ _).trans ?_; rfl
@[simp] theorem resumeWaiting_freeUsed (s : State) : (resumeWaiting s).freeUsed = s.freeUsed := by
  unfold resumeWaiting; refine (foldl_keeps (fun x : State => x.freeUsed) _ (fun _ _ => by simp) _ _).trans ?_; rfl
@[simp] theorem wheelResume_powered (s : State) : (wheelResume s).powered = s.powered := by
  unfold wheelResume; split <;> simp
@[simp] theorem wheelResume_up (s : State) : (wheelResume s).up = s.up := by
  unfold wheelResume; split <;> simp
@[simp] theorem wheelResume_dp (s : State) : (wheelResume s).dp = s.dp := by
  unfold wheelResume; split <;> simp
@[simp] theorem wheelResume_rmu (s : State) : (wheelResume s).rmu = s.rmu := by
  unfold wheelResume; split <;> simp
@[simp] theorem wheelResume_hs (s : State) : (wheelResume s).hs = s.hs := by
  unfold wheelResume; split <;> simp
@[simp] theorem wheelResume_ce (s : State) : (wheelResume s).ce = s.ce := by
  unfold wheelResume; split <;> simp
@[simp] theorem wheelResume_fu (s : State) : (wheelResume s).fu = s.fu := by
  unfold wheelResume; split <;> simp
@[simp] theorem wheelResume_mu (s : State) : (wheelResume s).mu = s.mu := by
  unfold wheelResume; split <;> simp
@[simp] theorem wheelResume_clu (s : State) : (wheelResume s).clu = s.clu := by
  unfold wheelResume; split <;> simp
@[simp] theorem wheelResume_mp (s : State) : (wheelResume s).mp = s.mp := by
  unfold wheelResume; split <;> simp
@[simp] theorem wheelResume_pending (s : State) : (wheelResume s).pending = s.pending := by
  unfold wheelResume; split <;> simp
@[simp] theorem wheelResume_freeUsed (s : State) : (wheelResume s).freeUsed = s.freeUsed := by
  unfold wheelResume; split <;> simp
@[simp] theorem resume_powered (s : State) : (resume s).powered = s.powered := by
  unfold resume; split <;> simp
@[simp] theorem resume_up (s : State) : (resume s).up = s.up := by
  unfold resume; split <;> simp
@[simp] theorem resume_dp (s : State) : (resume s).dp = s.dp := by
  unfold resume; split <;> simp
@[simp] theorem resume_rmu (s : State) : (resume s).rmu = s.rmu := by
  unfold resume; split <;> simp
@[simp] theorem resume_hs (s : State) : (resume s).hs = s.hs := by
  unfold resume; split <;> simp
@[simp] theorem resume_ce (s : State) : (resume s).ce = s.ce := by
  unfold resume; split <;> simp
@[simp] theorem resume_fu (s : State) : (resume s).fu = s.fu := by
  unfold resume; split <;> simp
@[simp] theorem resume_mu (s : State) : (resume s).mu = s.mu := by
  unfold resume; split <;> simp
@[simp] theorem resume_clu (s : State) : (resume s).clu = s.clu := by
  unfold resume; split <;> simp
@[simp] theorem resume_pending (s : State) : (resume s).pending = s.pending := by
  unfold resume; split <;> simp
@[simp] theorem resume_freeUsed (s : State) : (resume s).freeUsed = s.freeUsed := by
  unfold resume; split <;> simp
@[simp] theorem fillEnds_powered (s : State) : (fillEnds s).powered = s.powered := by
  unfold fillEnds; (repeat' split) <;> simp
@[simp] theorem fillEnds_dp (s : State) : (fillEnds s).dp = s.dp := by
  unfold fillEnds; (repeat' split) <;> simp
@[simp] theorem fillEnds_rmu (s : State) : (fillEnds s).rmu = s.rmu := by
  unfold fillEnds; (repeat' split) <;> simp
@[simp] theorem fillEnds_hs (s : State) : (fillEnds s).hs = s.hs := by
  unfold fillEnds; (repeat' split) <;> simp
@[simp] theorem fillEnds_gw (s : State) : (fillEnds s).gw = s.gw := by
  unfold fillEnds; (repeat' split) <;> simp
@[simp] theorem fillEnds_ce (s : State) : (fillEnds s).ce = s.ce := by
  unfold fillEnds; (repeat' split) <;> simp
@[simp] theorem fillEnds_fu (s : State) : (fillEnds s).fu = s.fu := by
  unfold fillEnds; (repeat' split) <;> simp
@[simp] theorem fillEnds_mu (s : State) : (fillEnds s).mu = s.mu := by
  unfold fillEnds; (repeat' split) <;> simp
@[simp] theorem fillEnds_clu (s : State) : (fillEnds s).clu = s.clu := by
  unfold fillEnds; (repeat' split) <;> simp
@[simp] theorem fillEnds_pending (s : State) : (fillEnds s).pending = s.pending := by
  unfold fillEnds; (repeat' split) <;> simp
@[simp] theorem fillEnds_freeUsed (s : State) : (fillEnds s).freeUsed = s.freeUsed := by
  unfold fillEnds; (repeat' split) <;> simp
@[simp] theorem softResetPort_powered (s : State) : (softResetPort s).powered = s.powered := rfl
@[simp] theorem softResetPort_up (s : State) : (softResetPort s).up = s.up := rfl
@[simp] theorem softResetPort_dp (s : State) : (softResetPort s).dp = s.dp := rfl
@[simp] theorem softResetPort_rmu (s : State) : (softResetPort s).rmu = s.rmu := rfl
@[simp] theorem softResetPort_hs (s : State) : (softResetPort s).hs = s.hs := rfl
@[simp] theorem softResetPort_gw (s : State) : (softResetPort s).gw = s.gw := rfl
@[simp] theorem softResetPort_ce (s : State) : (softResetPort s).ce = s.ce := rfl
@[simp] theorem softResetPort_fu (s : State) : (softResetPort s).fu = s.fu := rfl
@[simp] theorem softResetPort_mu (s : State) : (softResetPort s).mu = s.mu := rfl
@[simp] theorem softResetPort_clu (s : State) : (softResetPort s).clu = s.clu := rfl
@[simp] theorem softResetPort_pending (s : State) : (softResetPort s).pending = s.pending := rfl
@[simp] theorem softResetPort_freeUsed (s : State) : (softResetPort s).freeUsed = s.freeUsed := rfl
@[simp] theorem softResetHold_powered (s : State) : (softResetHold s).powered = s.powered := by simp [softResetHold]
@[simp] theorem softResetHold_dp (s : State) : (softResetHold s).dp = s.dp := by simp [softResetHold]
@[simp] theorem softResetHold_rmu (s : State) : (softResetHold s).rmu = s.rmu := by simp [softResetHold]
@[simp] theorem softResetHold_ce (s : State) : (softResetHold s).ce = s.ce := by simp [softResetHold]
@[simp] theorem softResetHold_fu (s : State) : (softResetHold s).fu = s.fu := by simp [softResetHold]
@[simp] theorem softResetHold_mu (s : State) : (softResetHold s).mu = s.mu := by simp [softResetHold]
@[simp] theorem softResetHold_clu (s : State) : (softResetHold s).clu = s.clu := by simp [softResetHold]
@[simp] theorem softResetHold_pending (s : State) : (softResetHold s).pending = s.pending := by simp [softResetHold]
@[simp] theorem clearAllCounters_powered (s : State) : (clearAllCounters s).powered = s.powered := rfl
@[simp] theorem clearAllCounters_up (s : State) : (clearAllCounters s).up = s.up := rfl
@[simp] theorem clearAllCounters_dp (s : State) : (clearAllCounters s).dp = s.dp := rfl
@[simp] theorem clearAllCounters_rmu (s : State) : (clearAllCounters s).rmu = s.rmu := rfl
@[simp] theorem clearAllCounters_hs (s : State) : (clearAllCounters s).hs = s.hs := rfl
@[simp] theorem clearAllCounters_gw (s : State) : (clearAllCounters s).gw = s.gw := rfl
@[simp] theorem clearAllCounters_ce (s : State) : (clearAllCounters s).ce = s.ce := rfl
@[simp] theorem clearAllCounters_mu (s : State) : (clearAllCounters s).mu = s.mu := rfl
@[simp] theorem clearAllCounters_clu (s : State) : (clearAllCounters s).clu = s.clu := rfl
@[simp] theorem clearAllCounters_mp (s : State) : (clearAllCounters s).mp = s.mp := rfl
@[simp] theorem clearAllCounters_pending (s : State) : (clearAllCounters s).pending = s.pending := rfl
@[simp] theorem clearAllCounters_freeUsed (s : State) : (clearAllCounters s).freeUsed = s.freeUsed := rfl
@[simp] theorem softResetMeter_powered (s : State) : (softResetMeter s).powered = s.powered := rfl
@[simp] theorem softResetMeter_up (s : State) : (softResetMeter s).up = s.up := rfl
@[simp] theorem softResetMeter_dp (s : State) : (softResetMeter s).dp = s.dp := rfl
@[simp] theorem softResetMeter_rmu (s : State) : (softResetMeter s).rmu = s.rmu := rfl
@[simp] theorem softResetMeter_hs (s : State) : (softResetMeter s).hs = s.hs := rfl
@[simp] theorem softResetMeter_gw (s : State) : (softResetMeter s).gw = s.gw := rfl
@[simp] theorem softResetMeter_ce (s : State) : (softResetMeter s).ce = s.ce := rfl
@[simp] theorem softResetMeter_fu (s : State) : (softResetMeter s).fu = s.fu := rfl
@[simp] theorem softResetMeter_clu (s : State) : (softResetMeter s).clu = s.clu := rfl
@[simp] theorem softResetMeter_mp (s : State) : (softResetMeter s).mp = s.mp := rfl
@[simp] theorem softResetMeter_pending (s : State) : (softResetMeter s).pending = s.pending := rfl
@[simp] theorem softResetMeter_freeUsed (s : State) : (softResetMeter s).freeUsed = s.freeUsed := rfl
@[simp] theorem softResetWheel_powered (s : State) : (softResetWheel s).powered = s.powered := by
  unfold softResetWheel; dsimp only; (repeat' split) <;> simp
@[simp] theorem softResetWheel_up (s : State) : (softResetWheel s).up = s.up := by
  unfold softResetWheel; dsimp only; (repeat' split) <;> simp
@[simp] theorem softResetWheel_dp (s : State) : (softResetWheel s).dp = s.dp := by
  unfold softResetWheel; dsimp only; (repeat' split) <;> simp
@[simp] theorem softResetWheel_rmu (s : State) : (softResetWheel s).rmu = s.rmu := by
  unfold softResetWheel; dsimp only; (repeat' split) <;> simp
@[simp] theorem softResetWheel_hs (s : State) : (softResetWheel s).hs = s.hs := by
  unfold softResetWheel; dsimp only; (repeat' split) <;> simp
@[simp] theorem softResetWheel_ce (s : State) : (softResetWheel s).ce = s.ce := by
  unfold softResetWheel; dsimp only; (repeat' split) <;> simp
@[simp] theorem softResetWheel_fu (s : State) : (softResetWheel s).fu = s.fu := by
  unfold softResetWheel; dsimp only; (repeat' split) <;> simp
@[simp] theorem softResetWheel_mu (s : State) : (softResetWheel s).mu = s.mu := by
  unfold softResetWheel; dsimp only; (repeat' split) <;> simp
@[simp] theorem softResetWheel_clu (s : State) : (softResetWheel s).clu = s.clu := by
  unfold softResetWheel; dsimp only; (repeat' split) <;> simp
@[simp] theorem softResetWheel_mp (s : State) : (softResetWheel s).mp = s.mp := by
  unfold softResetWheel; dsimp only; (repeat' split) <;> simp
@[simp] theorem softResetWheel_pending (s : State) : (softResetWheel s).pending = s.pending := by
  unfold softResetWheel; dsimp only; (repeat' split) <;> simp
@[simp] theorem softResetWheel_freeUsed (s : State) : (softResetWheel s).freeUsed = s.freeUsed := by
  unfold softResetWheel; dsimp only; (repeat' split) <;> simp
@[simp] theorem writeEntryField_powered (e : EntryIx) (f : EntryField) (v : Nat) (s : State) :
    (writeEntryField e f v s).1.powered = s.powered := by
  cases f <;> simp only [writeEntryField, writeEntryNumber, writeCode, refuseWrite] <;> (repeat' split) <;> simp
@[simp] theorem writeEntryField_dp (e : EntryIx) (f : EntryField) (v : Nat) (s : State) :
    (writeEntryField e f v s).1.dp = s.dp := by
  cases f <;> simp only [writeEntryField, writeEntryNumber, writeCode, refuseWrite] <;> (repeat' split) <;> simp
@[simp] theorem writeEntryField_pending (e : EntryIx) (f : EntryField) (v : Nat) (s : State) :
    (writeEntryField e f v s).1.pending = s.pending := by
  cases f <;> simp only [writeEntryField, writeEntryNumber, writeCode, refuseWrite] <;> (repeat' split) <;> simp
@[simp] theorem applyToEntry_powered (f : EntryField) (n v : Nat) (s : State) : (applyToEntry f n v s).1.powered = s.powered := by
  unfold applyToEntry; split <;> simp [refuseWrite]
@[simp] theorem applyToEntry_dp (f : EntryField) (n v : Nat) (s : State) : (applyToEntry f n v s).1.dp = s.dp := by
  unfold applyToEntry; split <;> simp [refuseWrite]
@[simp] theorem applyToEntry_pending (f : EntryField) (n v : Nat) (s : State) : (applyToEntry f n v s).1.pending = s.pending := by
  unfold applyToEntry; split <;> simp [refuseWrite]
@[simp] theorem applyToSlot_powered (n v : Nat) (s : State) : (applyToSlot n v s).1.powered = s.powered := by
  unfold applyToSlot; split <;> simp [refuseWrite]
@[simp] theorem applyToSlot_dp (n v : Nat) (s : State) : (applyToSlot n v s).1.dp = s.dp := by
  unfold applyToSlot; split <;> simp [refuseWrite]
@[simp] theorem applyToSlot_pending (n v : Nat) (s : State) : (applyToSlot n v s).1.pending = s.pending := by
  unfold applyToSlot; split <;> simp [refuseWrite]
@[simp] theorem applyToSlot_freeUsed (n v : Nat) (s : State) : (applyToSlot n v s).1.freeUsed = s.freeUsed := by
  unfold applyToSlot; split <;> simp [refuseWrite]
@[simp] theorem applyKind_powered (k : ListKind) (n : Nat) (v : Word) (s : State) : (applyKind k n v s).1.powered = s.powered := by
  cases k <;> simp [applyKind, writeGlobalField, writeNumber]
@[simp] theorem applyKind_dp (k : ListKind) (n : Nat) (v : Word) (s : State) : (applyKind k n v s).1.dp = s.dp := by
  cases k <;> simp [applyKind, writeGlobalField, writeNumber]
@[simp] theorem applyKind_pending (k : ListKind) (n : Nat) (v : Word) (s : State) : (applyKind k n v s).1.pending = s.pending := by
  cases k <;> simp [applyKind, writeGlobalField, writeNumber]
@[simp] theorem landHanded_powered (x : ListEntry) (s : State) : (landHanded x s).powered = s.powered := by
  unfold landHanded; split <;> simp
@[simp] theorem landHanded_dp (x : ListEntry) (s : State) : (landHanded x s).dp = s.dp := by
  unfold landHanded; split <;> simp
@[simp] theorem landHanded_pending (x : ListEntry) (s : State) : (landHanded x s).pending = s.pending := by
  unfold landHanded; split <;> simp
@[simp] theorem landFromRun_powered (r : Option (Fin 32)) (s : State) : (landFromRun r s).powered = s.powered := by
  unfold landFromRun; (repeat' split) <;> simp
@[simp] theorem landFromRun_dp (r : Option (Fin 32)) (s : State) : (landFromRun r s).dp = s.dp := by
  unfold landFromRun; (repeat' split) <;> simp
@[simp] theorem landFromRun_pending (r : Option (Fin 32)) (s : State) : (landFromRun r s).pending = s.pending := by
  unfold landFromRun; (repeat' split) <;> simp
@[simp] theorem landFromRun_none (s : State) : landFromRun none s = s := rfl
@[simp] theorem softResetList_powered (s : State) : (softResetList s).powered = s.powered := by
  unfold softResetList; simp
@[simp] theorem blockAct_powered (b : ResetBlock) (s : State) : (blockAct b s).powered = s.powered := by
  cases b <;> simp [blockAct]
@[simp] theorem takeAct_powered (s : State) : (takeAct s).powered = s.powered := by
  unfold takeAct; split <;> simp
@[simp] theorem takeActs_powered (n : Nat) (s : State) : (takeActs n s).powered = s.powered := by
  induction n generalizing s with
  | zero => rfl
  | succ n ih => simp [takeActs, ih]
@[simp] theorem allActs_powered (s : State) : (allActs s).powered = s.powered := by simp [allActs]
@[simp] theorem someActs_powered (s : State) : (someActs s).powered = s.powered := by simp [someActs]
@[simp] theorem idle_powered (s : State) : (idle s).powered = s.powered := by unfold idle; split <;> simp
@[simp] theorem handReset_powered (s : State) : (handReset s).powered = s.powered := rfl
@[simp] theorem softReset_powered (p : Bool) (s : State) : (softReset p s).powered = s.powered := by simp [softReset]
@[simp] theorem softResetList_dp (s : State) : (softResetList s).dp = s.dp := by
  unfold softResetList; simp
@[simp] theorem blockAct_dp (b : ResetBlock) (s : State) : (blockAct b s).dp = s.dp := by
  cases b <;> simp [blockAct]
@[simp] theorem takeAct_dp (s : State) : (takeAct s).dp = s.dp := by
  unfold takeAct; split <;> simp
@[simp] theorem takeActs_dp (n : Nat) (s : State) : (takeActs n s).dp = s.dp := by
  induction n generalizing s with
  | zero => rfl
  | succ n ih => simp [takeActs, ih]
@[simp] theorem allActs_dp (s : State) : (allActs s).dp = s.dp := by simp [allActs]
@[simp] theorem someActs_dp (s : State) : (someActs s).dp = s.dp := by simp [someActs]
@[simp] theorem idle_dp (s : State) : (idle s).dp = s.dp := by unfold idle; split <;> simp
@[simp] theorem handReset_dp (s : State) : (handReset s).dp = s.dp := rfl
@[simp] theorem softReset_dp (p : Bool) (s : State) : (softReset p s).dp = s.dp := by simp [softReset]
@[simp] theorem softResetList_pending (s : State) : (softResetList s).pending = s.pending := by
  unfold softResetList; simp
@[simp] theorem blockAct_pending (b : ResetBlock) (s : State) : (blockAct b s).pending = s.pending := by
  cases b <;> simp [blockAct]
@[simp] theorem takeAct_pending (s : State) : (takeAct s).pending = s.pending := by
  unfold takeAct; split <;> simp
@[simp] theorem takeActs_pending (n : Nat) (s : State) : (takeActs n s).pending = s.pending := by
  induction n generalizing s with
  | zero => rfl
  | succ n ih => simp [takeActs, ih]
@[simp] theorem allActs_pending (s : State) : (allActs s).pending = s.pending := by simp [allActs]
@[simp] theorem someActs_pending (s : State) : (someActs s).pending = s.pending := by simp [someActs]
@[simp] theorem idle_pending (s : State) : (idle s).pending = s.pending := by unfold idle; split <;> simp
@[simp] theorem handReset_pending (s : State) : (handReset s).pending = s.pending := rfl
@[simp] theorem softReset_pending (p : Bool) (s : State) : (softReset p s).pending = s.pending := by simp [softReset]

end Sys2Proof.Machine
end

