-- ==== Sys2Proof/Laws/Memory.lean ====
section
/-! SUPPORT. The content of the data cells: every write keeps the canonical form, a read after a write to the same
place gives the byte written, and a write leaves every other place alone. -/

namespace Sys2Proof.Machine

theorem memoryWf_cons {a : Nat} {b : Byte} {m : List Host.Cell} :
    memoryWf ((a, b) :: m) = true ↔ b ≠ unlistedByte ∧ (∀ c ∈ m, a < c.1) ∧ memoryWf m = true := by
  simp [memoryWf, and_assoc]

/-- Every address a write leaves listed was listed before it, or is the address written. -/
theorem mem_writeByte {m : List Host.Cell} {a : Nat} {b : Byte} {c : Host.Cell} (h : c ∈ writeByte m a b) :
    c.1 = a ∨ c ∈ m := by
  induction m with
  | nil => unfold writeByte at h; split at h <;> simp_all
  | cons x rest ih =>
    obtain ⟨y, d⟩ := x
    unfold writeByte at h
    split at h
    · split at h <;> simp_all
      rcases h with rfl | h <;> simp_all
    · split at h
      · split at h <;> simp_all
        rcases h with rfl | h <;> simp_all
      · rcases List.mem_cons.1 h with rfl | h
        · simp
        · rcases ih h with h | h <;> simp_all

/-- A write keeps the canonical form. -/
theorem memoryWf_writeByte {m : List Host.Cell} (hm : memoryWf m = true) (a : Nat) (b : Byte) :
    memoryWf (writeByte m a b) = true := by
  induction m with
  | nil => unfold writeByte; split <;> simp_all [memoryWf]
  | cons x rest ih =>
    obtain ⟨y, d⟩ := x
    obtain ⟨hd, hlt, hr⟩ := memoryWf_cons.1 hm
    unfold writeByte
    split
    · split
      · exact hm
      · refine memoryWf_cons.2 ⟨by assumption, ?_, hm⟩
        intro c hc
        rcases List.mem_cons.1 hc with rfl | hc
        · assumption
        · exact lt_trans (by assumption) (hlt c hc)
    · split
      · split
        · exact hr
        · subst_vars
          exact memoryWf_cons.2 ⟨by assumption, hlt, hr⟩
      · refine memoryWf_cons.2 ⟨hd, ?_, ih hr⟩
        intro c hc
        rcases mem_writeByte hc with h | h
        · omega
        · exact hlt c h

/-- An address below every listed one reads as an unlisted address. -/
theorem readByte_below {m : List Host.Cell} {a : Nat} (h : ∀ c ∈ m, a < c.1) : readByte m a = unlistedByte := by
  induction m with
  | nil => rfl
  | cons x rest ih =>
    obtain ⟨y, d⟩ := x
    have hy : a < y := h (y, d) (by simp)
    unfold readByte
    rw [if_neg (by omega)]
    exact ih fun c hc => h c (by simp [hc])

/-- A read after a write to the same place. -/
theorem readByte_writeByte_self {m : List Host.Cell} (hm : memoryWf m = true) (a : Nat) (b : Byte) :
    readByte (writeByte m a b) a = b := by
  induction m with
  | nil => unfold writeByte; split <;> simp_all [readByte]
  | cons x rest ih =>
    obtain ⟨y, d⟩ := x
    obtain ⟨-, hlt, hr⟩ := memoryWf_cons.1 hm
    unfold writeByte
    split
    · split
      · rw [readByte_below, ‹b = unlistedByte›]
        intro c hc
        rcases List.mem_cons.1 hc with rfl | hc
        · assumption
        · exact lt_trans (by assumption) (hlt c hc)
      · simp [readByte]
    · split
      · subst_vars
        split
        · rw [readByte_below hlt, ‹b = unlistedByte›]
        · simp [readByte]
      · rw [readByte, if_neg (by omega)]
        exact ih hr

/-- A read of any other place. -/
theorem readByte_writeByte_ne {m : List Host.Cell} (hm : memoryWf m = true) {a x : Nat} (h : x ≠ a) (b : Byte) :
    readByte (writeByte m a b) x = readByte m x := by
  induction m with
  | nil =>
    unfold writeByte
    split
    · rfl
    · simp only [readByte]
      rw [if_neg (Ne.symm h)]
  | cons p rest ih =>
    obtain ⟨y, d⟩ := p
    obtain ⟨-, hlt, hr⟩ := memoryWf_cons.1 hm
    unfold writeByte
    split
    · split
      · rfl
      · rw [readByte, if_neg (by omega)]
    · split
      · subst_vars
        split
        · conv_rhs => rw [readByte, if_neg (by omega)]
        · simp only [readByte]
          rw [if_neg (by omega), if_neg (by omega)]
      · simp only [readByte]
        split
        · rfl
        · exact ih hr

/-- A beat's bytes keep the canonical form. -/
theorem memoryWf_writeBytes (cells : List Nat) (k : Nat) (b : Beat) {m : List Host.Cell} (hm : memoryWf m = true) :
    memoryWf (writeBytes cells k b m) = true := by
  induction b generalizing k m with
  | nil => exact hm
  | cons x xs ih => exact ih (k + 1) (memoryWf_writeByte hm _ x)

/-- A place that no byte of the beat is stored at reads as before. -/
theorem readByte_writeBytes_other (cells : List Nat) (k : Nat) (b : Beat) {m : List Host.Cell}
    (hm : memoryWf m = true) {x : Nat} (h : ∀ i < b.length, x ≠ cellAddress cells (k + i)) :
    readByte (writeBytes cells k b m) x = readByte m x := by
  induction b generalizing k m with
  | nil => rfl
  | cons y ys ih =>
    have h0 : x ≠ cellAddress cells k := by simpa using h 0 (by simp)
    rw [writeBytes, ih (k + 1) (memoryWf_writeByte hm _ y), readByte_writeByte_ne hm h0]
    intro i hi
    have := h (i + 1) (by simp; omega)
    rwa [show k + 1 + i = k + (i + 1) by omega]

end Sys2Proof.Machine
end

