-- ==== Sys2Proof/Laws/Acts.lean ====
section
/-! SUPPORT. What each shared act can do, said once: where a command answers next, reservations after an edit, a wake,
the tail of the arrival queue, a post. -/

namespace Sys2Proof.Machine

/-! ### Where a command answers -/

@[simp] theorem whilePowered_on {f : State → State} {s : State} (h : s.powered = true) :
    whilePowered f s = .next (f s) := by simp [whilePowered, h]

/-- A command whose act needs PORn high answers its act, or the same state. -/
theorem whilePowered_next {f : State → State} {s t : State} (h : whilePowered f s = .next t) :
    t = if s.powered then f s else s := by
  unfold whilePowered at h
  split at h <;> cases h <;> simp_all

@[simp] theorem onUpLink_up {f : State → State} {s : State} (h : s.up.linkUp = true) : onUpLink f s = f s := by
  simp [onUpLink, h]

@[simp] theorem onDownLink_up {f : State → State} {s : State} (h : s.dp.linkUp = true) : onDownLink f s = f s := by
  simp [onDownLink, h]

/-! ### The acts of a soft reset that are due (R173) -/

/-- The next act is that of a block that is due; with none due nothing is taken. -/
theorem takeAct_cases (s : State) :
    (s.mp.resetsDue = [] ∧ takeAct s = s)
      ∨ ∃ b ∈ s.mp.resetsDue,
          takeAct s
            = blockAct b { s with freeUsed := s.freeUsed + 1, mp := { s.mp with resetsDue := s.mp.resetsDue.erase b } } := by
  unfold takeAct nextDue
  split
  · rename_i h
    refine .inl ⟨?_, rfl⟩
    cases hd : s.mp.resetsDue with
    | nil => rfl
    | cons b l =>
      rw [hd, List.getElem?_eq_none_iff] at h
      exact absurd (Nat.mod_lt _ (by simp)) (Nat.not_lt.mpr h)
  · rename_i b h
    exact .inr ⟨b, List.mem_of_getElem? h, rfl⟩

/-- With one act due, that is the one taken. -/
theorem takeAct_one {s : State} {b : ResetBlock} (h : s.mp.resetsDue = [b]) :
    takeAct s = blockAct b { s with freeUsed := s.freeUsed + 1, mp := { s.mp with resetsDue := [] } } := by
  rcases takeAct_cases s with ⟨k, -⟩ | ⟨x, hx, k⟩
  · simp [h] at k
  · obtain rfl : x = b := by simpa [h] using hx
    simp [k, h]

@[simp] theorem takeAct_settled {s : State} (h : s.mp.resetsDue = []) : takeAct s = s := by
  rcases takeAct_cases s with ⟨-, k⟩ | ⟨b, hb, -⟩
  · exact k
  · simp [h] at hb

@[simp] theorem takeActs_settled {s : State} (h : s.mp.resetsDue = []) (n : Nat) : takeActs n s = s := by
  induction n with
  | zero => rfl
  | succ n ih => rw [takeActs, takeAct_settled h, ih]

@[simp] theorem idle_settled {s : State} (h : s.mp.resetsDue = []) : idle s = s := by simp [idle, h]

@[simp] theorem allActs_settled {s : State} (h : s.mp.resetsDue = []) : allActs s = s := takeActs_settled h _

/-- A frame has its effect on what the acts that were due leave. -/
theorem framed_on {f : State → State} {s : State} (hp : s.powered = true) :
    framed f s = .next (f (allActs s)) := by simp [framed, hp]

/-- A frame that finds no act due is its own act. -/
@[simp] theorem framed_settled {f : State → State} {s : State} (hp : s.powered = true) (h : s.mp.resetsDue = []) :
    framed f s = .next (f s) := by simp [framed_on hp, h]

/-- With no command waiting the step takes the next act that is due. -/
theorem step_nil {s : State} (h : s.pending = []) : step s = .next (idle s) := by
  unfold step
  rw [h]

/-- The step takes the front command and gives exec the rest of the queue. -/
theorem step_cons {s : State} {c : Instr} {rest : List Instr} (h : s.pending = c :: rest) :
    step s = exec c { s with pending := rest } := by
  unfold step
  rw [h]

/-! ### Tables by lane -/

theorem PerLane.get_set {α : Type} (t : PerLane α) (l k : LaneName) (a : α) :
    (t.set l a).get k = if k = l then a else t.get k := by
  cases l <;> cases k <;> rfl

/-! ### Reservations -/

theorem find_reservation_map {l : List Reservation} {c : Nat} {f : Reservation → Reservation}
    (hf : ∀ r, firstCell (f r) = firstCell r) (x : Nat) :
    (l.map fun r => if firstCell r = c then f r else r).find? (fun r => firstCell r == x) =
      (l.find? fun r => firstCell r == x).map fun r => if firstCell r = c then f r else r := by
  induction l with
  | nil => rfl
  | cons a l ih =>
    have keep : firstCell (if firstCell a = c then f a else a) = firstCell a := by split <;> simp [hf]
    simp only [List.map_cons, List.find?_cons, keep]
    cases firstCell a == x
    · exact ih
    · rfl

/-- An edit of the reservation at a cell that keeps its cells changes that one and no other. -/
theorem reservationAt_setReservation {c : Nat} {f : Reservation → Reservation}
    (hf : ∀ r, firstCell (f r) = firstCell r) (s : State) (x : Nat) :
    reservationAt (setReservation c f s) x = (reservationAt s x).map fun r => if x = c then f r else r := by
  unfold reservationAt setReservation State.onHs
  dsimp only
  rw [find_reservation_map hf]
  cases h : List.find? (fun r => firstCell r == x) s.hs.reservations with
  | none => rfl
  | some r =>
    have hx := List.find?_some h
    simp at hx
    simp [hx]

@[simp] theorem reservationAt_wake (s : State) (x : Nat) : reservationAt (wake s) x = reservationAt s x := by
  simp [reservationAt]

/-! ### Events that the mask keeps out -/

theorem postEvent_masked {k : EventKind} {s : State} (h : s.mp.eventMask.getLsbD (eventCode k) = false)
    (e : Option EntryIx) (v : Option Nat) : postEvent k e v s = s := by simp [postEvent, h]

/-- With both pressure events masked an evaluation of pressure changes nothing of the Management Port. -/
theorem evaluatePressure_masked {s : State} (on : s.mp.eventMask.getLsbD (eventCode .poolPressureOn) = false)
    (off : s.mp.eventMask.getLsbD (eventCode .poolPressureOff) = false) : (evaluatePressure s).mp = s.mp := by
  unfold evaluatePressure
  dsimp only
  (repeat' split) <;> first | rfl | (rw [postEvent_masked (by first | exact on | exact off)]; rfl)

/-- R63: at the Management Port a discard of many leaves what its evaluation of pressure posts. -/
theorem discardAll_masked {s : State} (on : s.mp.eventMask.getLsbD (eventCode .poolPressureOn) = false)
    (off : s.mp.eventMask.getLsbD (eventCode .poolPressureOff) = false) (p : Descriptor → Bool)
    (f : Reservation → Reservation) : (discardAll p f s).mp = s.mp := by
  unfold discardAll
  dsimp only
  (repeat' split) <;> (try rw [noteFreed_mp]) <;> rw [evaluatePressure_masked] <;> simp_all

/-! ### A wake touches the lanes and nothing else -/

/-- The wheel of the second state is that of the first, but for its lanes. -/
abbrev lanesOnly (s t : State) : Prop := t.gw = { s.gw with lanes := t.gw.lanes }

theorem foldl_lanesOnly (ls : List LaneName) (f : State → LaneName → State) (hf : ∀ t l, lanesOnly t (f t l))
    (s : State) : lanesOnly s (ls.foldl f s) := by
  induction ls generalizing s with
  | nil => rfl
  | cons a l ih =>
    have h := ih (f s a)
    simp only [lanesOnly, List.foldl_cons] at h ⊢
    rw [h, hf s a]

theorem setLane_lanesOnly (l : LaneName) (f : Lane → Lane) (s : State) : lanesOnly s (setLane l f s) := rfl

theorem markWoken_lanesOnly (s : State) : lanesOnly s (markWoken s) :=
  foldl_lanesOnly _ _ (fun t l => setLane_lanesOnly l _ t) s

theorem beginIdle_lanesOnly (s : State) : lanesOnly s (beginIdle s) :=
  foldl_lanesOnly _ (fun t l => beginRound l t) (fun t l => setLane_lanesOnly l _ t) s

theorem wakeDrain_lanesOnly (s : State) : lanesOnly s (wakeDrain s) := by
  unfold wakeDrain
  split <;> rfl

theorem lanesOnly_trans {a b c : State} (h : lanesOnly a b) (k : lanesOnly b c) : lanesOnly a c := by
  simp only [lanesOnly] at h k ⊢
  rw [k, h]

theorem wake_lanesOnly (s : State) : lanesOnly s (wake s) := by
  unfold wake
  dsimp only
  split
  · exact lanesOnly_trans (lanesOnly_trans (markWoken_lanesOnly s) (beginIdle_lanesOnly _)) (wakeDrain_lanesOnly _)
  · exact lanesOnly_trans (markWoken_lanesOnly s) (wakeDrain_lanesOnly _)

theorem wakes_lanesOnly (n : Nat) (s : State) : lanesOnly s (wakes n s) := by
  induction n generalizing s with
  | zero => rfl
  | succ n ih => exact lanesOnly_trans (wake_lanesOnly s) (ih _)

/-! ### A search that may have named a head a discard takes (R91), and a visit from a place of its search -/

/-- Before a discard the wheel is as it was, or a search is counted as not having named the head, or stands after it. -/
theorem nameGone_cases (d : Descriptor) (s : State) :
    nameGone d s = s ∨ nameGone d s = { s with freeUsed := s.freeUsed + 1 }
      ∨ ∃ p, nameGone d s
          = { standAt (laneFor s.gw.appliedSplit d.txn.kind) p s with freeUsed := s.freeUsed + 1 } := by
  unfold nameGone
  dsimp only
  split
  · exact .inl rfl
  · split
    · exact .inr (.inr ⟨_, rfl⟩)
    · exact .inr (.inl rfl)

theorem standAt_lanesOnly (l : LaneName) (p : SearchPlace) (s : State) : lanesOnly s (standAt l p s) := by
  unfold standAt
  dsimp only
  split <;> rfl

theorem nameGone_lanesOnly (d : Descriptor) (s : State) : lanesOnly s (nameGone d s) := by
  rcases nameGone_cases d s with h | h | ⟨p, h⟩ <;> rw [h]
  exact standAt_lanesOnly _ _ s

theorem namesGone_lanesOnly (p : Descriptor → Bool) (s : State) : lanesOnly s (namesGone p s) := by
  unfold namesGone
  generalize s.hs.held.filter _ = l
  induction l generalizing s with
  | nil => rfl
  | cons d l ih => exact lanesOnly_trans (nameGone_lanesOnly d s) (ih _)

/-- A visit releases the head its rescue scan finds, or the one its class search finds, or is done. -/
theorem visitFrom_cases (l : LaneName) (p : SearchPlace) (s : State) :
    (∃ d, rescueScan s l p.rescue = some d ∧ visitFrom l p s = release l d s)
      ∨ (∃ d, rescueScan s l p.rescue = none ∧ classSearch s l p.cls p.order = some d
          ∧ visitFrom l p s = movePointer l p.cls d.entry (release l d s))
      ∨ (rescueScan s l p.rescue = none ∧ classSearch s l p.cls p.order = none ∧ visitFrom l p s = visitDone l s) := by
  unfold visitFrom
  split
  · exact .inl ⟨_, ‹_›, rfl⟩
  · split
    · exact .inr (.inl ⟨_, ‹_›, ‹_›, rfl⟩)
    · exact .inr (.inr ⟨‹_›, ‹_›, rfl⟩)

/-- R134: only the wait of the write whose unit becomes ready ends. -/
theorem endWaitIfReady_other {cell : Nat} {s : State} (h : ∀ p ∈ s.dp.sending, p.cells ≠ cell) :
    endWaitIfReady cell s = s := by
  unfold endWaitIfReady
  split
  · rfl
  · rename_i p hp
    have := h p (by simp [hp])
    simp [this]

/-! ### The responses the part originates (R11, R132) -/

/-- A record joins the queue, or is discarded while the upstream link is down. -/
theorem placeGenerated_up (h : Header) (s : State) :
    (placeGenerated h s).up
      = { s.up with generated := if s.up.linkUp then s.up.generated ++ [h] else s.up.generated } := by
  unfold placeGenerated
  split <;> rfl

/-- A row of records joins the queue in its order, or is discarded while the upstream link is down. -/
theorem foldl_placeGenerated_up {α : Type} (f : α → Header) (l : List α) (s : State) :
    (l.foldl (fun t a => placeGenerated (f a) t) s).up
      = { s.up with generated := if s.up.linkUp then s.up.generated ++ l.map f else s.up.generated } := by
  induction l generalizing s with
  | nil => simp
  | cons a l ih =>
    rw [List.foldl_cons, ih, placeGenerated_up]
    cases s.up.linkUp <;> simp

/-- Each transaction of a row is answered DEFER, in the order of the row. -/
theorem answerDefer_up (ds : List Descriptor) (s : State) :
    (answerDefer ds s).up
      = { s.up with generated :=
            if s.up.linkUp then s.up.generated ++ ds.map (fun d => answerTxn d.txn .defer) else s.up.generated } :=
  foldl_placeGenerated_up _ ds s

/-- A flight is answered unless it is an orphan. -/
theorem answerFlight_up (f : FlightEntry) (st : Status) (s : State) :
    (answerFlight f st s).up
      = { s.up with generated :=
            if f.orphan = false ∧ s.up.linkUp = true then s.up.generated ++ [answerTxn f.txn st]
            else s.up.generated } := by
  unfold answerFlight
  cases f.orphan
  · simp [placeGenerated_up]
  · simp

/-- Each flight of a row that is no orphan is answered, in the order of the row. -/
theorem foldl_answerFlight_up (st : Status) (l : List FlightEntry) (s : State) :
    (l.foldl (fun t f => answerFlight f st t) s).up
      = { s.up with generated :=
            if s.up.linkUp then s.up.generated ++ (l.filter fun f => !f.orphan).map fun f => answerTxn f.txn st
            else s.up.generated } := by
  induction l generalizing s with
  | nil => simp
  | cons f l ih =>
    rw [List.foldl_cons, ih, answerFlight_up]
    cases s.up.linkUp <;> cases ho : f.orphan <;> simp [ho]

/-! ### The answer that carries a field (R186) -/

/-- A field the manual gives a value is answered with it. -/
theorem answerField_some {f : Field} {s : State} {v : Word} (h : fieldValue s f = some v) (c : AnswerCode) :
    answerField c f s = answer c v s := by simp [answerField, h]

/-- A field the manual gives no value is answered with a free one (assumption 1). -/
theorem answerField_none {f : Field} {s : State} (h : fieldValue s f = none) (c : AnswerCode) :
    answerField c f s = answerFree c s := by simp [answerField, h]

/-- A write that its owner refuses is answered BAD_TARGET with the field as it stands. -/
theorem writeNamed_refused {f : Field} {v : Word} {s : State} (h : writeAt f v s = refuseWrite s) :
    writeNamed f v s = answerField .badTarget f s := by simp [writeNamed, h, refuseWrite]

/-! ### The arrival queue's tail -/

theorem onTail_append (f : ArrivalPacket → ArrivalPacket) (q : List ArrivalPacket) (p : ArrivalPacket) :
    onTail f (q ++ [p]) = q ++ [f p] := by
  induction q with
  | nil => rfl
  | cons x q ih =>
    cases q with
    | nil => rfl
    | cons y q =>
      simp only [onTail, List.cons_append] at ih ⊢
      rw [ih]

/-! ### A post touches the event queue and EVENT_LOST and nothing else -/

theorem postEvent_mp (k : EventKind) (e : Option EntryIx) (v : Option Nat) (s : State) :
    (postEvent k e v s).mp
      = { s.mp with events := (postEvent k e v s).mp.events, eventLost := (postEvent k e v s).mp.eventLost } := by
  unfold postEvent
  (repeat' split) <;> rfl

/-- Every record that was queued before a post is still queued, in its place. -/
theorem postEvent_prefix (k : EventKind) (e : Option EntryIx) (v : Option Nat) (s : State) :
    s.mp.events <+: (postEvent k e v s).mp.events := by
  unfold postEvent
  (repeat' split) <;> simp [State.onMp]

end Sys2Proof.Machine
end

