-- ==== Sys2Proof/Tests/Slice0.lean ====
section
/-! SUPPORT. Tests of the model against values the manual works out or states, a smoke test of well-formedness, and for
every statement of Obligations.lean a concrete state that meets its premises, clause by clause. -/

namespace Sys2Proof.Tests

open Sys2Proof Sys2Proof.Machine

set_option Elab.async false

/-! ### Small states -/

/-- The state after one command; the state itself where it stops, which no command does. -/
def after (c : Instr) (s : State) : State :=
  match exec c s with
  | .next t => t
  | .fault _ => s
  | .refused _ => s

/-- READY, both links up, credits in hand, the lanes of the mode at work. -/
def live (regulate : Bool) : State :=
  let s := State.powerOn regulate
  { s with
    up := { s.up with linkUp := true, headerCredits := 4, dataCredits := 64, headerAdvertised := 8,
                      dataAdvertised := 64 },
    dp := { s.dp with linkUp := true, headerCredits := 4, dataCredits := 64, headerAdvertised := 4,
                      dataAdvertised := 64 },
    gw := { s.gw with lanes := if regulate then ⟨⟨.walking, 0, .arrive, false, false, false⟩, ⟨.walking, 8, .arrive, false, false, false⟩,
                                                 s.gw.lanes.shared, s.gw.lanes.drain⟩
                               else { s.gw.lanes with drain := { s.gw.lanes.drain with motion := .walking } } },
    mp := { s.mp with ready := true } }

/-- A frame finds the part as the statements about frames ask: PORn is high and no act of a soft reset is due. -/
abbrev ready (s : State) : Prop := s.powered = true ∧ Settled s

def reqTxn (kind : Kind) (tag : Tag) (lengthMinusOne : BitVec 12) : Txn := ⟨kind, 0x0300, tag, 0, lengthMinusOne⟩

def reqHeader (code : BitVec 4) (tag : Tag) (lengthMinusOne : BitVec 12) : Header :=
  ⟨code, 0, 0x0300, 0, tag, 0, lengthMinusOne, 0, 0⟩

/-- A held write of 512 bytes, 64 of them received, in cell 0. -/
def heldW : Descriptor := ⟨0, 0, reqTxn .write 1 511, 0, some 0, none⟩

/-- A held read fenced on it. -/
def heldR : Descriptor := ⟨1, 0, reqTxn .read 2 511, 1, none, some 0⟩

/-- A held read with no fence. -/
def freeR : Descriptor := ⟨1, 0, reqTxn .read 2 511, 1, none, none⟩

/-- That write's reservation. -/
def cellsW (received : Nat) (data : DataState) (down : Transmission) : Reservation :=
  ⟨reqTxn .write 1 511, 0, [0], received, data, down, false⟩

def withHeld (held : List Descriptor) (cells : List Reservation) (s : State) : State :=
  { s with hs := { s.hs with held := held, reservations := cells, arrivalCounter := 2 } }

def withQueue (q : List ArrivalPacket) (r : UpReception) (s : State) : State :=
  { s with up := { s.up with queue := q, reception := r } }

def withFlight (f : List FlightEntry) (s : State) : State := { s with fu := { s.fu with table := f } }

def withGrants (g : List Grant) (s : State) : State := { s with gw := { s.gw with grants := g } }

def withEntry (e : EntryIx) (f : EntryConfig → EntryConfig) (s : State) : State :=
  { s with rmu := { s.rmu with entries := s.rmu.entries.set e (f s.rmu.entries[e]) } }

def withMeter (e : EntryIx) (f : MeterEntry → MeterEntry) (s : State) : State :=
  { s with mu := { s.mu with entries := s.mu.entries.set e (f s.mu.entries[e]) } }

/-- A closing record with this M and backlog flag, still to be evaluated. -/
def closed (measured : Nat) (backlog : Bool) : ClosingRecord := ⟨measured * 256, measured, backlog, 0, 100, .pending, true⟩

/-- Held, flying and stored work at once: the write receiving, the read fenced on it, a read in flight. -/
def busy : State :=
  let s := withFlight [⟨reqTxn .read 9 63, 0, .awaiting, some 200, false⟩]
    (withQueue [] (.cells 0) (withHeld [heldW, heldR] [cellsW 64 .receiving .pending] (live true)))
  { s with hs := { s.hs with bytes := [(0, 7), (63, 1)] } }

/-! ### Well-formedness: one ill-formed command for each check -/

theorem test_wf_refuses_an_empty_beat : (Instr.upBeatArrival []).wf = false := by decide

theorem test_wf_refuses_a_beat_of_65_bytes : (Instr.responseBeatArrival (List.replicate 65 0)).wf = false := by decide

theorem test_wf_refuses_a_slot_visit_of_the_drain_lane : (Instr.slotVisit .drain).wf = false := by decide

theorem test_wf_refuses_entry_48 :
    (Instr.readM 48).wf = false ∧ (Instr.readReleasedBytesLow 48).wf = false ∧ (Instr.readReleasedBytesHigh 48).wf = false
      ∧ (Instr.enable 48).wf = false ∧ (Instr.disable 48).wf = false ∧ (Instr.setBurst 48 0).wf = false := by decide

theorem test_wf_refuses_fields_past_the_list :
    (Instr.changeListEntryWrite 32 0 0).wf = false ∧ (Instr.changeListEntryWrite 0 3 0).wf = false := by decide

theorem test_wf_refuses_reads_with_a_command_of_their_own :
    (Instr.readField 6 0 1).wf = false ∧ (Instr.readField 7 47 0).wf = false ∧ (Instr.readField 7 47 1).wf = false := by
  decide

theorem test_wf_refuses_writes_with_a_command_of_their_own :
    (Instr.writeField 1 3 0 1).wf = false ∧ (Instr.writeField 1 3 0x0B 9).wf = false ∧ (Instr.writeField 4 0 2 9).wf = false
      ∧ (Instr.writeField 4 0 0x12 9).wf = false ∧ (Instr.writeField 3 16 0 1).wf = false
      ∧ (Instr.writeField 5 31 2 1).wf = false ∧ (Instr.writeField 5 32 0 1).wf = false := by decide

theorem test_wf_refuses_an_unknown_command_that_is_known : (Instr.unknownCommand 0x14).wf = false := by decide

/-! ### Layouts (sections 1.2 and 11.2) -/

/-- WRITE FIELD, REQUESTER, entry 3, field 0Bh, value 5. -/
theorem test_frame_of_a_burst_cap_write :
    frameCommand false (frameOfBits 0x02_01_03_0B_00000005) = .setBurst 3 5 := by decide

theorem test_frames_of_the_commands_without_operands :
    frameCommand true (frameOfBits 0x14_00_00_00_00000000) = .softReset true
      ∧ frameCommand false (frameOfBits 0x22_00_00_00_00000000) = .go
      ∧ frameCommand false (frameOfBits 0x15_00_00_00_00000000) = .unknownCommand 0x15 := by decide

/-- Byte 0: kind 2, status 0; requester id 0412h; tag 3FFh; length − 1 is FFFh; address 123456789ABCh; zeros. -/
theorem test_header_bytes :
    headerOfBits 0x20_0412_03FF_0FFF_123456789ABC_000000
      = ⟨2, 0, 0x0412, 0, 0x3FF, 0, 0xFFF, 0x123456789ABC, 0⟩ := by decide

/-- The record head: byte 1 the kind, byte 2 the entry or FFh, bytes 3 and 4 the stamp. -/
theorem test_record_head :
    (after .popEvent { live true with mp := { (live true).mp with events := [⟨.epochOverrun, none, none, 0x1234⟩] } }).mp.answer
      = some ⟨.done, 0x09FF1234⟩ := by decide +kernel

/-- Bits 0–1 REGULATE, 2 remembered, 3 READY, 8 and 9 the links, 10 PACE. -/
theorem test_live_status : (after (.readStatus true) (live true)).mp.answer = some ⟨.done, 0x70D⟩ := by decide +kernel

theorem test_unknown_code : (after (.unknownCommand 0x77) (live true)).mp.answer = some ⟨.badTarget, 0⟩ := by
  decide +kernel

/-! ### Matching and windows (the examples of sections 2.3 and 2.4) -/

/-- The table of the example of section 2.3. -/
def matching : State :=
  [(1, 0x0410, 0xFFF0, true), (2, 0x0400, 0xFF00, true), (5, 0x0412, 0xFFFF, false), (9, 0x8000, 0x8000, true)].foldl
    (fun s x => withEntry x.1 (fun c => { c with key := x.2.1, mask := x.2.2.1, enabled := x.2.2.2 }) s) (live true)

theorem test_matching_example :
    matchEntry matching 0x0412 = 1 ∧ matchEntry matching 0x0420 = 2 ∧ matchEntry matching 0x0300 = 0
      ∧ matchEntry matching 0x9123 = 9 := by decide +kernel

theorem test_window_example :
    let c : EntryConfig := { powerOnEntry 2 with windowBase := 0x100, windowLimit := 0x1FF }
    inWindow c ⟨.read, 0, 0, 0x1FF000, 4095⟩ = true ∧ inWindow c ⟨.write, 0, 0, 0x1FF800, 4095⟩ = false
      ∧ inWindow c ⟨.read, 0, 0, 0x0FFFFF, 1⟩ = false ∧ inWindow c ⟨.read, 0, 0, 0x100000, 0⟩ = true := by decide

/-! ### Clamps (R30, R100, R105) -/

theorem test_start_marks : [100, 0, 65, 257, 2000].map clampStartMark = [128, 64, 128, 512, 512] := by decide

theorem test_epoch_period_clamps :
    (after (.writeField 4 0 0 0) (live true)).mp.answer = some ⟨.clamped, 1⟩
      ∧ (after (.writeField 4 0 0 4096) (live true)).mp.answer = some ⟨.clamped, 4095⟩ := by decide +kernel

theorem test_event_mask_keeps_bits_1_to_20 :
    (after (.eventMaskWrite 0xFFFFFFFF) (live true)).mp.answer = some ⟨.clamped, 0x1FFFFE⟩ := by decide +kernel

/-! ### The worked refill of chapter 6 -/

def workedSnapshot : Snapshot :=
  { rows :=
      [⟨0, 0, 65535, 16, .none, .formula, 0, .normal, false⟩, ⟨3, 4000, 12000, 8, .none, .formula, 0, .normal, true⟩,
       ⟨7, 6000, 9000, 4, .none, .formula, 0, .over, true⟩,
       ⟨12, 2000, 65535, 16, .twoThirds, .formula, 0, .normal, false⟩,
       ⟨20, 1000, 4000, 12, .none, .formula, 0, .starved, true⟩],
    lent := 900, portEpochBytes := 20000, penaltyScale := 128, rescueScale := 384 }

theorem test_worked_refills : workedSnapshot.rows.map (refillOf workedSnapshot) = [0, 7466, 4733, 2000, 4000] := by decide

theorem test_overcommitted_spare : spareOf { workedSnapshot with portEpochBytes := 8000, lent := 667 } = 667 := by decide

/-- Entry 12 with balance 7000 under a cap of 8000 takes 2000 and lends 667. -/
theorem test_worked_landing :
    let s := withEntry 12 (fun c => { c with enabled := true, burst := 8000 }) (live true)
    let t := after .refillLanding
      { s with ce := { s.ce with records := s.ce.records.set 12 ⟨7000, 0⟩, pass := some ⟨workedSnapshot, 8, []⟩ } }
    t.ce.records[12] = ⟨8000, 2000⟩ ∧ t.ce.accumulator = 667 := by decide +kernel

/-- Section 6.4: a 512-byte write costs 544 at the write factor of 256, a 4096-byte read 5160 at 320; the largest
charge is 16496. -/
theorem test_charges :
    chargeOf powerOnCreditEngine (reqTxn .write 1 511) = 544 ∧ chargeOf powerOnCreditEngine (reqTxn .read 1 4095) = 5160
      ∧ chargeOf { powerOnCreditEngine with readFactor := 1023 } (reqTxn .read 1 4095) = 16496 := by decide

/-! ### One step of each family -/

theorem test_header_arrival_takes_a_credit :
    (after (.upHeaderArrival (reqHeader 1 5 63)) (live true)).up.headerAdvertised = 7 := by decide +kernel

theorem test_hold_stamps_and_fences :
    (after .disposition (withQueue [⟨reqHeader 1 5 63, [], none, false⟩] .stray
      (withHeld [heldW] [cellsW 64 .receiving .pending] (live true)))).hs.held
      = [heldW, ⟨1, 0, reqTxn .read 5 63, 2, none, some 0⟩] := by decide +kernel

theorem test_beat_is_stored :
    readByte (after (.upBeatArrival (List.replicate 64 5)) busy).hs.bytes 127 = 5
      ∧ readByte (after (.upBeatArrival (List.replicate 64 5)) busy).hs.bytes 63 = 1 := by decide +kernel

theorem test_slot_visit_charges_a_read :
    (after (.slotVisit .read) (withHeld [freeR] [] { live true with gw := { (live true).gw with lanes := { (live true).gw.lanes with read := ⟨.walking, 3, .arrive, false, false, false⟩ } } })).ce.records[0].balance
      = 16384 - 680 := by decide +kernel

theorem test_drain_lane_takes_no_charge :
    (after .drainSearch (withHeld [freeR] [] (live false))).ce.records[0].balance = 16384 := by decide +kernel

theorem test_epoch_counter_wraps :
    (after .epochTimerExpiry { live true with ce := { (live true).ce with epochCounter := 0xFFFF } }).ce.epochCounter = 0 := by
  decide +kernel

/-- Window 8 of the worked sequence of chapter 8: M is 50 below the low limit of 120, the starve count was 3. -/
theorem test_starved_declared :
    let s := withEntry 20 (fun c => { c with enabled := true, lowLimit := 120, highLimit := 400, offset := 200,
                                             crossing := .both })
      (withMeter 20 (fun m => { m with state := .normal, starveCount := 3, lastSign := .below, closing := closed 50 true })
        (live true))
    let t := evaluateEntry 20 s
    t.mu.rescueList = [20] ∧ t.mu.entries[20].starveCount = 0 ∧ t.mp.events.map (·.kind) = [.starvedDeclared] := by
  decide +kernel

theorem test_halt_is_answered_with_the_mode : (after .halt (live true)).mp.answer = some ⟨.done, 2⟩ := by decide +kernel

theorem test_power_off_silences_commands :
    (after .engage { live false with powered := false }).mp.mode = .bypass := by decide +kernel

/-- SET_FLOOR with value 70000 stores 65535 (section 10.3). -/
theorem test_change_list_clamps :
    let s := live true
    (after .changeListApply { s with clu := { s.clu with run := some 0, list := s.clu.list.set 0 ⟨1, 0, 70000⟩ } }).rmu.entries[0].floor
      = 65535 := by decide +kernel

/-! ### Witnesses: the step, the layouts, the laws -/

/-- The same state with a command at the front of the queue. -/
def queued (c : Instr) (s : State) : State := { s with pending := [c] }

theorem witness_StepTakesTheFrontCommand : (queued .popEvent busy).pending = .popEvent :: [] := rfl

theorem witness_EmptyQueueIdlesAndNoWordSpells :
    State.reset.pending = [] ∧ Settled State.reset ∧ (after .powerOnResetAsserted State.reset).powered = false := by
  decide +kernel

theorem witness_LayoutsCarryEveryField :
    (Instr.setBurst 47 0xFFFFFFFF).wf = true
      ∧ frameOf (.setBurst 47 0xFFFFFFFF) = some ⟨0x02, 1, 47, 0x0B, 0xFFFFFFFF⟩ := by decide

/-- A step from a state with a receiving write, a fence, a flight and stored bytes. -/
theorem witness_a_step_of_busy : ∃ t, step (queued (.upBeatArrival (List.replicate 64 5)) busy) = .next t := ⟨_, rfl⟩

theorem witness_CellContentsStayCanonical : MemoryLaw (queued (.upBeatArrival (List.replicate 64 5)) busy) := by
  decide +kernel

theorem witness_TableLaw : TableLaw busy :=
  ⟨by decide +kernel, by decide +kernel, fun c => by cases c <;> decide +kernel⟩

theorem witness_ConfigurationStaysInRange : SettingsLaw busy := by decide +kernel

/-- Balances at both ends of the range: 16496 below 0, and the burst cap. -/
theorem witness_CreditStaysInBounds :
    BalanceLaw { busy with ce := { busy.ce with records := busy.ce.records.set 0 ⟨-16496, 0⟩ } } ∧ BalanceLaw busy
      ∧ LentLaw { busy with ce := { busy.ce with lent := 16384 } } := by decide +kernel

theorem witness_RescueListAndCountersStayLegal :
    (let s := withMeter 0 (fun m => { m with state := .starved }) busy
     RescueLaw { s with mu := { s.mu with rescueList := [0] } }) ∧ CounterLaw busy := by decide +kernel

theorem witness_PoolsStayWhole : PoolLaw busy ∧ FreedLaw busy := by decide +kernel

theorem witness_PairsAndGrantsStayUnique :
    PairLaw busy ∧ GrantLaw (withGrants [⟨.read, 0, reqTxn .read 3 63, none, false⟩] busy) := by decide +kernel

theorem witness_FencesJoinOlderOverlaps : FenceLaw busy := by decide +kernel

theorem witness_QueuesStayWithinTheirPlaces :
    PlacesLaw (withQueue (List.replicate 8 ⟨reqHeader 1 5 63, [], none, false⟩) .stray (live true))
      ∧ EventLaw { live true with mp := { (live true).mp with
                                          events := List.replicate 32 ⟨.epochOverrun, none, none, 0⟩ } } := by
  decide +kernel

/-- An end mark is a command that changes no byte, no configuration, no mode, no epoch and no answer. -/
theorem witness_the_frames :
    (∃ t, exec .upEndMark busy = .next t) ∧ (∀ b, Instr.upEndMark ≠ .upBeatArrival b) ∧ Instr.upEndMark ≠ .disposition
      ∧ (∀ p, Instr.upEndMark ≠ .powerOnReset p) ∧ mayConfigure .upEndMark = false ∧ Instr.upEndMark ≠ .popEvent
      ∧ (∀ p, Instr.upEndMark ≠ .softReset p) ∧ (∀ v p, Instr.upEndMark ≠ .clearStatus v p)
      ∧ frameOf .upEndMark = none ∧ Instr.upEndMark ≠ .halt ∧ Instr.upEndMark ≠ .startUpFillEnd :=
  ⟨⟨_, rfl⟩, nofun, nofun, nofun, rfl, nofun, nofun, nofun, rfl, nofun, nofun⟩

/-- EVENT_LOST stands and READY is set before an end mark that leaves both. -/
theorem witness_EventsStayQueuedInOrder :
    ({ busy with mp := { busy.mp with eventLost := true } } : State).mp.eventLost = true ∧ busy.mp.ready = true := by
  decide +kernel

/-! ### Witnesses: shared acts -/

def fullQueue : State :=
  { live true with mp := { (live true).mp with events := List.replicate 32 ⟨.epochOverrun, none, none, 0⟩ } }

theorem witness_PostingAnEvent :
    ready (live true) ∧ (live true).mp.eventMask.getLsbD (eventCode .limitHigh) = false
      ∧ (live true).mp.eventMask.getLsbD (eventCode .actionMissed) = true ∧ (live true).mp.events.length < 32
      ∧ fullQueue.mp.eventMask.getLsbD (eventCode .epochOverrun) = true ∧ 32 ≤ fullQueue.mp.events.length := by
  decide +kernel

theorem witness_RequesterIdMatchesOneEntry : matchEntry matching 0x9123 ≠ 0 ∧ matchEntry matching 0x0300 = 0 := by
  decide +kernel

def pressed (on : Bool) (low high : Nat) : State :=
  { live true with hs := { (live true).hs with pressureOn := on, descriptorLow := low, descriptorHigh := high } }

/-- 512 descriptors are free: at a low mark of 512 pressure turns ON, at a high mark of 512 OFF. -/
theorem witness_PressureFollowsItsMarks :
    ready (live true)
      ∧ (pressed false 512 512).hs.pressureOn = false ∧ freeDescriptors (pressed false 512 512) ≤ 512
      ∧ (pressed false 511 512).hs.pressureOn = false
      ∧ ¬ (freeDescriptors (pressed false 511 512) ≤ 511 ∨ freeCells (pressed false 511 512) ≤ 32)
      ∧ (pressed true 511 512).hs.pressureOn = true
      ∧ (512 ≤ freeDescriptors (pressed true 511 512) ∧ 64 ≤ freeCells (pressed true 511 512)
          ∧ 511 < freeDescriptors (pressed true 511 512) ∧ 32 < freeCells (pressed true 511 512))
      ∧ (pressed true 512 512).hs.pressureOn = true ∧ ¬ 512 < freeDescriptors (pressed true 512 512) := by
  decide +kernel

/-- Both wheel lanes between rounds, under this split and pacing. -/
def idle (split : LaneSplit) (pacing : Pacing) : State :=
  let s := live true
  { s with gw := { s.gw with
                   lanes := { s.gw.lanes with read := ⟨.idle, 0, .arrive, false, false, false⟩,
                                              write := ⟨.idle, 8, .arrive, false, false, false⟩ },
                   storedSplit := split, appliedSplit := split, storedPacing := pacing, appliedPacing := pacing } }

theorem witness_WakesReachTheLanes :
    (LaneName.read ∈ wheelLanes (live true) ∧ laneState (live true) .read = .walking)
      ∧ (let s := idle .splitLocked .continuous
         LaneName.write ∈ wheelLanes s ∧ laneState s .write = .idle ∧ s.gw.appliedPacing = .continuous
           ∧ s.gw.storedSplit = s.gw.appliedSplit ∧ s.gw.storedPacing = s.gw.appliedPacing
           ∧ ∀ k ∈ wheelLanes s, laneState s k = .idle)
      ∧ (let s := idle .shared .paced
         LaneName.shared ∈ wheelLanes s ∧ laneState s .shared = .idle ∧ s.gw.appliedPacing = .paced)
      ∧ laneState (withGrants [⟨.read, 0, reqTxn .read 3 63, none, false⟩] (live true)) .read = .waitingLink
      ∧ (let s := idle .splitFree .continuous
         laneState { s with gw := { s.gw with lanes := { s.gw.lanes with read := ⟨.stopped, 0, .arrive, false, false, false⟩ } } } .read
           = .stopped)
      ∧ (let s := live false
         let t := { s with gw := { s.gw with lanes := { s.gw.lanes with drain := ⟨.idle, 0, .arrive, false, false, false⟩ } } }
         LaneName.drain ∈ lanesActive t ∧ laneState t .drain = .idle) := by decide +kernel

/-! ### Witnesses: the Upstream Port -/

theorem witness_CreditsAreGrantedAndAdvertised :
    (live true).powered = true ∧ (live true).up.linkUp = true ∧ (live true).dp.linkUp = true
      ∧ State.reset.powered = true ∧ State.reset.up.linkUp = false ∧ State.reset.mp.ready = false := by decide +kernel

/-- Reception that is stray is not of a held write's cells. -/
theorem stray_is_no_cell {r : UpReception} (h : r = .stray) : ∀ c, r ≠ .cells c := by subst h; nofun

def arrivedRead : ArrivalPacket := ⟨reqHeader 1 5 63, [], none, false⟩

def openWrite : ArrivalPacket := ⟨reqHeader 2 5 511, [], none, false⟩

theorem witness_HeadersJoinTheArrivalQueue :
    (live true).powered = true ∧ (live true).up.linkUp = true
      ∧ ((∀ c, (live true).up.reception ≠ .cells c) ∧ (live true).up.reception ≠ .queued
          ∧ (withQueue (List.replicate 7 arrivedRead) .stray (live true)).up.queue.length < 8)
      ∧ (let s := withQueue (List.replicate 6 arrivedRead ++ [openWrite]) .queued (live true)
         s.up.reception = .queued ∧ s.up.queue = List.replicate 6 arrivedRead ++ [openWrite] ∧ s.up.queue.length < 8)
      ∧ 8 ≤ (withQueue (List.replicate 8 arrivedRead) .stray (live true)).up.queue.length :=
  ⟨by decide +kernel, by decide +kernel, ⟨stray_is_no_cell (by decide +kernel), by decide +kernel, by decide +kernel⟩,
    by decide +kernel, by decide +kernel⟩

/-- The last beat of a write of 512 bytes, and the first beat of one in the arrival queue. -/
theorem witness_BeatsLandInTheirCells :
    (let s := withQueue [] (.cells 0) (withHeld [heldW, heldR] [cellsW 448 .receiving .pending] (live true))
     s.powered = true ∧ s.up.linkUp = true ∧ s.up.reception = .cells 0 ∧ queuedBeats s.up < 64 ∧ 1 ≤ s.up.dataAdvertised
       ∧ reservationAt s 0 = some (cellsW 448 .receiving .pending) ∧ 448 % 64 = 0
       ∧ 448 + (List.replicate 64 (0 : Byte)).length ≤ txnLength (reqTxn .write 1 511) ∧ PoolLaw s ∧ MemoryLaw s)
      ∧ (let s := withQueue [arrivedRead, openWrite] .queued (live true)
         s.powered = true ∧ s.up.linkUp = true ∧ s.up.reception = .queued ∧ s.up.queue = [arrivedRead] ++ [openWrite]
           ∧ queuedBeats s.up < 64) := by decide +kernel

theorem witness_EndMarkCompletesTheWrite :
    (let s := withQueue [] (.cells 0) (withHeld [heldW] [cellsW 512 .receiving .sending] (live true))
     s.powered = true ∧ s.up.linkUp = true ∧ s.up.reception = .cells 0
       ∧ reservationAt s 0 = some (cellsW 512 .receiving .sending) ∧ 512 = txnLength (reqTxn .write 1 511)
       ∧ (cellsW 512 .receiving .sending).lostBeat = false ∧ (cellsW 512 .receiving .sending).transmission ≠ .done)
      ∧ (let s := withQueue [openWrite] .queued (live true)
         s.powered = true ∧ s.up.linkUp = true ∧ s.up.reception = .queued ∧ s.up.queue = [] ++ [openWrite])
      ∧ (live true).powered = true ∧ (live true).up.linkUp = true ∧ (live true).up.reception = .stray := by decide +kernel

/-- The write being sent when its abort mark comes. -/
def sendingW : State :=
  let s := withQueue [] (.cells 0) (withHeld [] [cellsW 64 .receiving .sending] (live true))
  { s with dp := { s.dp with sending := some ⟨reqTxn .write 1 511, 0, 0, 1, false⟩ } }

theorem witness_CutWritesAreDiscarded :
    (busy.powered = true ∧ busy.up.linkUp = true ∧ busy.up.reception = .cells 0
        ∧ reservationAt busy 0 = some (cellsW 64 .receiving .pending) ∧ (64 : Nat) ≠ txnLength (reqTxn .write 1 511)
        ∧ heldWrite busy 0 = some heldW)
      ∧ (sendingW.powered = true ∧ sendingW.up.linkUp = true ∧ sendingW.up.reception = .cells 0
        ∧ reservationAt sendingW 0 = some (cellsW 64 .receiving .sending) ∧ heldWrite sendingW 0 = none
        ∧ sendingW.dp.sending = some ⟨reqTxn .write 1 511, 0, 0, 1, false⟩) := by decide +kernel

def answered : Header := ⟨9, 8, 0x0300, 0, 1, 0, 63, 0, 0⟩

def memoryRead : Response := ⟨⟨9, 0, 0x0300, 0, 9, 0, 63, 0, 0⟩, [List.replicate 64 3]⟩

def responding (generated : List Header) (whole : List Response) (last : Option ResponseKind) : State :=
  let s := live true
  { s with up := { s.up with generated := generated, lastKind := last }, dp := { s.dp with whole := whole } }

theorem witness_ResponseArbiterAlternates :
    (let s := responding [answered] [] none
     s.powered = true ∧ s.up.linkUp = true ∧ s.up.generated = answered :: [] ∧ 1 ≤ s.up.headerCredits ∧ s.dp.whole = [])
      ∧ (responding [answered] [memoryRead] (some .forwarded)).up.lastKind = some .forwarded
      ∧ (let s := responding [answered] [memoryRead] none
         s.dp.linkUp = true ∧ s.dp.whole = memoryRead :: [] ∧ 1 ≤ s.up.headerCredits
           ∧ memoryRead.beats.length ≤ s.up.dataCredits ∧ s.up.lastKind ≠ some .forwarded)
      ∧ (responding [] [memoryRead] (some .forwarded)).up.generated = [] := by decide +kernel

theorem witness_UpLinkDownDiscardsHeldWork : busy.powered = true ∧ busy.up.linkUp = true := by decide +kernel

/-! ### Witnesses: the disposition -/

/-- The queue's head, with these held transactions, entry 0 edited. -/
def offered (p : ArrivalPacket) (r : UpReception) (held : List Descriptor) (f : EntryConfig → EntryConfig) : State :=
  withEntry 0 f (withQueue [p] r (withHeld held [] (live true)))

/-- What every clause about the head asks. -/
abbrev headReady (s : State) (p : ArrivalPacket) : Prop :=
  s.powered = true ∧ s.up.linkUp = true ∧ s.up.queue = p :: [] ∧ s.up.generated.length < 16 ∧ s.mp.ready = true
    ∧ (s.hs.stalled = true → s.hs.retryDue = true)

/-- The checks before the quota pass. -/
abbrev passesFour (s : State) (h : Header) : Prop :=
  requestMalformed h = false ∧ inWindow s.rmu.entries[matchEntry s h.requesterId] (txnOf h) = true
    ∧ pairInUse s h.requesterId h.tag = false

abbrev passesAll (s : State) (h : Header) : Prop :=
  let e := matchEntry s h.requesterId
  passesFour s h ∧ heldCount s e < s.rmu.entries[e].quota ∧ s.hs.pressureOn = false ∧ 1 ≤ freeDescriptors s

/-- The policy of the class a header is matched to. -/
def policyFor (s : State) (h : Header) : PressurePolicy :=
  (s.rmu.classes.get s.rmu.entries[matchEntry s h.requesterId].cls).policy

theorem witness_DispositionHoldsTheHead :
    (let s := offered arrivedRead .stray [heldW] id
     headReady s arrivedRead ∧ passesAll s arrivedRead.header ∧ (txnOf arrivedRead.header).kind = .read
       ∧ s.up.reception ≠ .queued)
      ∧ (let s := offered openWrite .queued [freeR] id
         headReady s openWrite ∧ passesAll s openWrite.header ∧ (txnOf openWrite.header).kind = .write
           ∧ (txnLength (txnOf openWrite.header) + 511) / 512 ≤ freeCells s ∧ s.up.reception = .queued
           ∧ openWrite.beats = [] ∧ openWrite.closing = none) := by decide +kernel

def badRead : ArrivalPacket := ⟨{ reqHeader 1 5 63 with tailZeros := 1 }, [], none, false⟩

def longWrite : ArrivalPacket := ⟨reqHeader 2 5 4095, [], none, false⟩

def sameTag : ArrivalPacket := ⟨reqHeader 1 2 63, [], none, false⟩

/-- A write of 4096 bytes when 7 cells are free. -/
def shortOfCells (cls : SvcClass) : State :=
  let s := offered longWrite .queued [] (fun c => { c with cls := cls })
  { s with hs := { s.hs with reservations := [⟨reqTxn .write 7 4095, 0, List.range 249, 0, .receiving, .pending, false⟩] } }

theorem witness_DispositionChecksInOrder_malformed :
    let s := offered badRead .stray [] id
    headReady s badRead ∧ requestMalformed badRead.header = true := by
  decide +kernel

theorem witness_DispositionChecksInOrder_window :
    let s := offered arrivedRead .stray [] (fun c => { c with windowBase := 1 })
    headReady s arrivedRead ∧ requestMalformed arrivedRead.header = false
      ∧ inWindow s.rmu.entries[matchEntry s 0x0300] (txnOf arrivedRead.header) = false := by
  decide +kernel

theorem witness_DispositionChecksInOrder_duplicate :
    let s := offered sameTag .stray [freeR] id
    headReady s sameTag ∧ requestMalformed sameTag.header = false
      ∧ inWindow s.rmu.entries[matchEntry s 0x0300] (txnOf sameTag.header) = true ∧ pairInUse s 0x0300 2 = true := by
  decide +kernel

theorem witness_DispositionChecksInOrder_quota :
    let s := offered arrivedRead .stray [freeR] (fun c => { c with quota := 1 })
    headReady s arrivedRead ∧ passesFour s arrivedRead.header
      ∧ s.rmu.entries[matchEntry s 0x0300].quota ≤ heldCount s (matchEntry s 0x0300) := by
  decide +kernel

theorem witness_DispositionChecksInOrder_pressure :
    let s := offered arrivedRead .stray [] id
    let t := { s with hs := { s.hs with pressureOn := true } }
    headReady t arrivedRead ∧ passesFour t arrivedRead.header ∧ t.hs.pressureOn = true
      ∧ policyFor t arrivedRead.header = .defer := by
  decide +kernel

theorem witness_DispositionChecksInOrder_no_room_defer :
    let s := shortOfCells .bulk
    headReady s longWrite ∧ passesFour s longWrite.header ∧ (txnOf longWrite.header).kind = .write
      ∧ freeCells s < (txnLength (txnOf longWrite.header) + 511) / 512 ∧ policyFor s longWrite.header = .defer := by
  decide +kernel

theorem witness_DispositionChecksInOrder_no_room_stall :
    let s := shortOfCells .prime
    headReady s longWrite ∧ passesFour s longWrite.header ∧ (txnOf longWrite.header).kind = .write
      ∧ freeCells s < (txnLength (txnOf longWrite.header) + 511) / 512 ∧ policyFor s longWrite.header = .stall
      ∧ heldCount s (matchEntry s 0x0300) < s.rmu.entries[matchEntry s 0x0300].quota := by
  decide +kernel


/-! ### Witnesses: the Downstream Port -/

def flying (kind : Kind) (tag : Tag) (phase : FlightPhase) (timer : Option Nat) (orphan : Bool) : FlightEntry :=
  ⟨reqTxn kind tag 63, 0, phase, timer, orphan⟩

def respHeader (code : BitVec 4) (tag : Tag) (lengthMinusOne : BitVec 12) : Header :=
  ⟨code, 0, 0x0300, 0, tag, 0, lengthMinusOne, 0, 0⟩

def receiving (r : Response) (s : State) : State := { s with dp := { s.dp with reception := .receiving r } }

theorem witness_ResponsesFromMemory_headers :
    (let s := withFlight [flying .write 4 .awaiting (some 9) false] (live true)
     s.powered = true ∧ s.dp.linkUp = true ∧ s.dp.reception = .stray ∧ s.dp.whole.length < 4 ∧ 1 ≤ s.dp.headerAdvertised
       ∧ responseMatch s (respHeader 10 4 63) = some (flying .write 4 .awaiting (some 9) false) ∧ PairLaw s
       ∧ responseMatch s (respHeader 10 5 63) = none)
      ∧ (responseMalformed (respHeader 9 4 63) = false ∧ carriesData (respHeader 9 4 63) = true)
      ∧ (responseMalformed (respHeader 10 4 63) = false ∧ carriesData (respHeader 10 4 63) = false)
      ∧ responseMalformed { respHeader 9 4 63 with lengthZeros := 1 } = true := by decide +kernel

/-- A response of 100 bytes: a beat of 64, then one of 36. -/
theorem witness_ResponsesFromMemory_beats :
    (let s := receiving ⟨respHeader 9 4 99, []⟩ (live true)
     s.powered = true ∧ s.dp.linkUp = true ∧ beatPlacesTaken s.dp < 64 ∧ 1 ≤ s.dp.dataAdvertised
       ∧ (List.replicate 64 (0 : Byte)).length = beatSize 100 1 ∧ 1 < beatsOf 100
       ∧ (List.replicate 63 (0 : Byte)).length ≠ beatSize 100 1 ∧ s.dp.reception ≠ .discarding)
      ∧ (let r : Response := ⟨respHeader 9 4 99, [List.replicate 64 0]⟩
         let s := receiving r (withFlight [flying .read 4 .awaiting (some 9) false] (live true))
         s.powered = true ∧ s.dp.linkUp = true ∧ beatPlacesTaken s.dp < 64 ∧ 1 ≤ s.dp.dataAdvertised
           ∧ headerLength r.header = 100 ∧ (List.replicate 36 (0 : Byte)).length = beatSize 100 2 ∧ 2 = beatsOf 100
           ∧ responseMatch s r.header = some (flying .read 4 .awaiting (some 9) false) ∧ PairLaw s)
      ∧ (let s := live true
         ({ s with dp := { s.dp with reception := .discarding } } : State).dp.reception = .discarding) := by
  decide +kernel

def grantR : Grant := ⟨.read, 0, reqTxn .read 3 63, none, false⟩

def grantW (cut : Bool) : Grant := ⟨.write, 0, ⟨.write, 0x0300, 1, 0x1000, 511⟩, some 0, cut⟩

def twoReady (last : LaneName) : State :=
  let s := withGrants [grantR, grantW false] (live true)
  { s with dp := { s.dp with lastLane := some last } }

theorem witness_LinkArbiterChoosesAReadyRelease :
    GrantLaw (twoReady .read) ∧ chooseGrant (twoReady .read) = some (grantW false)
      ∧ chooseGrant (twoReady .write) = some grantR
      ∧ (let s := twoReady .read
         s.dp.sending = none ∧ s.dp.linkUp = true ∧ 1 ≤ s.dp.headerCredits ∧ requestBeats grantR.txn ≤ s.dp.dataCredits
           ∧ requestBeats (grantW false).txn ≤ s.dp.dataCredits ∧ effectiveMode s = .regulate
           ∧ overlap grantR.txn (grantW false).txn = false ∧ (∀ x ∈ s.gw.grants, x.holder ∈ lanesActive s)) := by
  decide +kernel

/-- A granted write with its reservation in this state. -/
def granted (g : Grant) (cells : List Reservation) : State := withGrants [g] (withHeld [] cells (live true))

theorem witness_PacketsBeginWithTheirHeader :
    (let s := withFlight [⟨reqTxn .read 3 63, 0, .granted, none, false⟩] (granted grantR [])
     s.powered = true ∧ chooseGrant s = some grantR ∧ grantR.cells = none ∧ grantR.holder ≠ .drain
       ∧ ∀ f ∈ s.fu.table, f.phase = .granted)
      ∧ (let s := granted (grantW false) [cellsW 64 .receiving .pending]
         s.powered = true ∧ chooseGrant s = some (grantW false) ∧ (grantW false).cut = false
           ∧ reservationAt s 0 = some (cellsW 64 .receiving .pending) ∧ ∀ f ∈ s.fu.table, f.timer = none)
      ∧ (let s := granted (grantW true) [cellsW 64 .draining .pending]
         s.powered = true ∧ chooseGrant s = some (grantW true) ∧ (grantW true).cut = true
           ∧ reservationAt s 0 = some (cellsW 64 .draining .pending))
      ∧ (let s := granted (grantW true) [cellsW 64 .closed .pending]
         s.powered = true ∧ chooseGrant s = some (grantW true)
           ∧ reservationAt s 0 = some (cellsW 64 .closed .pending)) := by decide +kernel

/-- The write of 512 bytes being sent, so many beats sent and so many bytes received. -/
def sendingAt (sent received : Nat) (data : DataState) (waiting : Bool) : State :=
  let s := withHeld [] [cellsW received data .sending] (live true)
  { s with dp := { s.dp with sending := some ⟨reqTxn .write 1 511, 0, 0, sent, waiting⟩ } }

theorem witness_UnitsAreSentAsTheyBecomeReady :
    (let s := sendingAt 7 512 .receiving false
     s.powered = true ∧ s.dp.sending = some ⟨reqTxn .write 1 511, 0, 0, 7, false⟩
       ∧ reservationAt s 0 = some (cellsW 512 .receiving .sending) ∧ 7 < (txnLength (reqTxn .write 1 511) + 63) / 64
       ∧ min (64 * (7 + 1)) (txnLength (reqTxn .write 1 511)) ≤ 512)
      ∧ (let s := sendingAt 8 512 .complete false
         s.powered = true ∧ reservationAt s 0 = some (cellsW 512 .complete .sending)
           ∧ (txnLength (reqTxn .write 1 511) + 63) / 64 ≤ 8)
      ∧ (let s := sendingAt 7 511 .receiving false
         s.powered = true ∧ reservationAt s 0 = some (cellsW 511 .receiving .sending)
           ∧ 511 < min (64 * (7 + 1)) (txnLength (reqTxn .write 1 511))) := by decide +kernel

theorem witness_UnderrunsAndTimeoutsEndTheFlight :
    (let s := withFlight [flying .write 1 .sending none false] (sendingAt 1 64 .receiving true)
     let p : Sending := ⟨reqTxn .write 1 511, 0, 0, 1, true⟩
     s.powered = true ∧ s.up.linkUp = true ∧ s.dp.sending = some p ∧ nextUnitReady s p = false
       ∧ reservationAt s 0 = some (cellsW 64 .receiving .sending)
       ∧ flightOf s 0x0300 1 = some (flying .write 1 .sending none false))
      ∧ (let s := withFlight [flying .read 4 .awaiting (some 200) false] (live true)
         s.powered = true ∧ s.up.linkUp = true
           ∧ flightOf s 0x0300 4 = some (flying .read 4 .awaiting (some 200) false)) := by decide +kernel

theorem witness_DownLinkDownAndUp :
    (let s := sendingAt 1 64 .receiving true
     s.powered = true ∧ s.dp.linkUp = true ∧ s.up.linkUp = true
       ∧ s.dp.sending = some ⟨reqTxn .write 1 511, 0, 0, 1, true⟩)
      ∧ (let s := State.powerOn true
         s.powered = true ∧ s.dp.linkUp = false ∧ s.gw.storedSplit = s.gw.appliedSplit
           ∧ s.gw.storedPacing = s.gw.appliedPacing ∧ s.gw.grants = [] ∧ s.mp.mode ≠ .halted
           ∧ ∀ l ∈ lanesActive s, (s.gw.lanes.get l).motion = .stopped) := by decide +kernel

/-! ### Witnesses: the Grant Wheel -/

/-- The write lane at this slot of its walk. -/
def walkingAt (slot : Fin 16) (s : State) : State :=
  { s with gw := { s.gw with lanes := { s.gw.lanes with write := ⟨.walking, slot, .arrive, false, true, false⟩ } } }

/-- A write of entry 0 whose data is complete; entry 0 is BULK. -/
def oneWrite : State := withHeld [heldW] [cellsW 512 .complete .pending] (live true)

/-- Entry 0 on the rescue list. -/
def rescuing : State :=
  { oneWrite with mu := { oneWrite.mu with rescueList := [0] } }

abbrev lanesWalk (s : State) (l : LaneName) : Prop :=
  s.powered = true ∧ l ∈ wheelLanes s ∧ laneState s l = .walking ∧ s.dp.linkUp = true ∧ s.mp.mode ≠ .halted

theorem witness_SearchesServeInOrder :
    laneHead oneWrite .write 0 = some heldW ∧ laneHead oneWrite .shared 0 = some heldW
      ∧ rescueScan rescuing .write [3, 0] = some heldW
      ∧ classSearch oneWrite .write .bulk (searchOrder 0) = some heldW := by decide +kernel

/-- What a search from a place finds: in its rescue scan, in its class search, or nothing. -/
abbrev scanFinds (s : State) (l : LaneName) (p : SearchPlace) (d : Descriptor) : Prop := rescueScan s l p.rescue = some d
abbrev classFinds (s : State) (l : LaneName) (p : SearchPlace) (d : Descriptor) : Prop :=
  rescueScan s l p.rescue = none ∧ classSearch s l p.cls p.order = some d
abbrev findsNone (s : State) (l : LaneName) (p : SearchPlace) : Prop :=
  rescueScan s l p.rescue = none ∧ classSearch s l p.cls p.order = none

/-- Slot 9 is RECORD, slot 11 BULK, slot 8 PRIME. -/
theorem witness_SlotVisitsReleaseOneHead :
    (let s := walkingAt 9 rescuing
     lanesWalk s .write ∧ s.gw.appliedSplit ≠ .splitLocked ∧ s.gw.slots[(9 : Fin 16)] = ⟨.record, true⟩
       ∧ (s.gw.lanes.get .write).phase = .arrive ∧ scanFinds s .write (slotSearch s .write .record) heldW)
      ∧ (let s := walkingAt 11 oneWrite
         lanesWalk s .write ∧ s.gw.appliedSplit ≠ .splitLocked ∧ s.gw.slots[(11 : Fin 16)] = ⟨.bulk, true⟩
           ∧ classFinds s .write (slotSearch s .write .bulk) heldW)
      ∧ (let s := walkingAt 8 rescuing
         lanesWalk s .write ∧ s.gw.appliedSplit ≠ .splitLocked ∧ s.gw.slots[(8 : Fin 16)] = ⟨.prime, true⟩
           ∧ findsNone s .write (slotSearch s .write .prime) ∧ (8 : Fin 16) ≠ lastSlot .write) := by decide +kernel

/-- Both lanes of SPLIT_LOCKED at a pair, in this pacing and these phases. -/
def locked (r w : Fin 16) (p : VisitPhase) (pacing : Pacing) (s : State) : State :=
  { s with gw := { s.gw with
                   storedSplit := .splitLocked, appliedSplit := .splitLocked, storedPacing := pacing,
                   appliedPacing := pacing,
                   lanes := { s.gw.lanes with read := ⟨.walking, r, p, false, false, false⟩,
                                              write := ⟨.walking, w, p, false, false, false⟩ } } }

theorem witness_LockedVisitsServeTheClassRead :
    (let s := locked 1 9 (.visiting .record) .paced rescuing
     lanesWalk s .write ∧ s.gw.appliedSplit = .splitLocked ∧ (s.gw.lanes.get .write).phase = .visiting .record
       ∧ scanFinds s .write (slotSearch s .write .record) heldW)
      ∧ (let s := locked 3 11 (.visiting .bulk) .paced oneWrite
         lanesWalk s .write ∧ classFinds s .write (slotSearch s .write .bulk) heldW)
      ∧ (let s := locked 0 8 (.visiting .prime) .paced rescuing
         lanesWalk s .write ∧ findsNone s .write (slotSearch s .write .prime)) := by decide +kernel

/-- A slot switched off. -/
def slotOff (k : Fin 16) (s : State) : State :=
  { s with gw := { s.gw with slots := s.gw.slots.set k ⟨.bulk, false⟩ } }

abbrev settingsSame (s : State) : Prop :=
  s.gw.storedSplit = s.gw.appliedSplit ∧ s.gw.storedPacing = s.gw.appliedPacing

abbrev pairWalks (s : State) : Prop :=
  s.powered = true ∧ s.mp.mode = .regulate ∧ s.gw.appliedSplit = .splitLocked ∧ s.dp.linkUp = true
    ∧ laneState s .read = .walking ∧ laneState s .write = .walking

theorem witness_RoundsEndAndPairsStep :
    (let s := slotOff 12 (walkingAt 12 oneWrite)
     lanesWalk s .write ∧ s.gw.appliedSplit ≠ .splitLocked ∧ settingsSame s
       ∧ (s.gw.lanes.get .write).phase = .arrive ∧ s.gw.slots[(s.gw.lanes.get .write).slot].enabled = false)
      ∧ (let s := walkingAt 15 (live true)
         lanesWalk s .write ∧ settingsSame s ∧ (s.gw.lanes.get .write).slot = lastSlot .write
           ∧ findsNone s .write (slotSearch s .write .scavenge))
      ∧ (let s := locked 0 8 .arrive .paced (live true)
         pairWalks s ∧ s.gw.slots[(0 : Fin 16)].enabled = true ∧ s.gw.slots[(8 : Fin 16)].enabled = true)
      ∧ (let s := slotOff 8 (locked 0 8 .arrive .paced (live true))
         pairWalks s ∧ s.gw.slots[(8 : Fin 16)].enabled = false ∧ settingsSame s ∧ s.gw.appliedPacing = .paced)
      ∧ (let s := locked 6 14 .done .paced (live true)
         pairWalks s ∧ s.gw.slots[(7 : Fin 16)].enabled = true ∧ s.gw.slots[(15 : Fin 16)].enabled = true)
      ∧ (let s := locked 7 15 .done .paced (live true)
         pairWalks s ∧ settingsSame s ∧ s.gw.lanes.read.slot = 7) := by decide +kernel

theorem witness_DrainLaneReleasesTheOldest :
    (let s := withHeld [heldW] [cellsW 512 .complete .pending] (live false)
     s.powered = true ∧ s.mp.mode = .bypass ∧ laneState s .drain = .walking ∧ s.gw.grants = []
       ∧ headOf s 0 .write = some heldW ∧ s.rmu.entries[(0 : EntryIx)].enabled = true ∧ heldW.fence = none
       ∧ dataReady s heldW = true ∧ flightCount s 0 < s.rmu.entries[(0 : EntryIx)].flightCap ∧ s.fu.table.length < 256)
      ∧ (let s := withHeld [heldW] [cellsW 511 .receiving .pending] (live false)
         laneState s .drain = .walking ∧ headOf s 0 .write = some heldW ∧ dataReady s heldW = false)
      ∧ (laneState (live false) .drain = .walking ∧ (live false).hs.held = []) := by decide +kernel

/-- The one held transaction is the only candidate, so it is older than every other. -/
theorem witness_DrainLaneReleasesTheOldest_alone :
    ∀ x, headOf (withHeld [heldW] [cellsW 512 .complete .pending] (live false)) x.entry x.txn.kind = some x →
      x = heldW := by
  intro x hx
  have hm := List.mem_of_mem_head? (Option.mem_def.mpr hx)
  simpa [holdList, withHeld] using (List.mem_filter.mp hm).1

/-! ### Witnesses: the Credit Engine and the PACE pin -/

def passing (next : Nat) (s : State) : State :=
  { s with ce := { s.ce with accumulator := 667, pass := some ⟨workedSnapshot, next, []⟩ } }

theorem witness_RefillsAreComputedAndLand :
    (workedSnapshot.rows.map (·.refillSource)).head? = some .formula
      ∧ (let r : SnapshotRow := ⟨5, 9, 9, 9, .none, .pinned, 65535, .over, true⟩
         r.refillSource = .pinned)
      ∧ (let s := passing 0 (live true)
         s.powered = true ∧ s.ce.pass = some ⟨workedSnapshot, 0, []⟩
           ∧ nextToLand ⟨workedSnapshot, 0, []⟩ = workedSnapshot.rows[0]? ∧ s.rmu.entries[(0 : EntryIx)].enabled = true)
      ∧ (let s := passing 1 (live true)
         s.powered = true ∧ s.ce.pass = some ⟨workedSnapshot, 1, []⟩
           ∧ nextToLand ⟨workedSnapshot, 1, []⟩ = workedSnapshot.rows[1]? ∧ s.rmu.entries[(3 : EntryIx)].enabled = false)
      ∧ nextToLand ⟨workedSnapshot, 21, []⟩ = none := by decide +kernel

def source (x : EpochSource) (s : State) : State := { s with ce := { s.ce with epochSource := x } }

def paceOut (s : State) : State := { s with mp := { s.mp with paceDirection := .output } }

theorem witness_EpochExpiriesAreTakenOrMissed :
    (let s := live true
     s.powered = true ∧ s.mp.paceDirection = .input ∧ s.ce.epochSource = .timer ∧ s.ce.pass = none
       ∧ s.clu.source ≠ .pace)
      ∧ (let s := passing 47 (live true)
         s.powered = true ∧ s.mp.paceDirection = .input ∧ s.ce.epochSource = .timer ∧ s.ce.pass ≠ none)
      ∧ (let s := source .pace (live true)
         s.powered = true ∧ s.mp.paceDirection = .input ∧ s.ce.epochSource = .pace ∧ s.clu.source ≠ .pace
           ∧ s.ce.pass = none)
      ∧ (let s := passing 47 (source .pace (live true))
         s.powered = true ∧ s.mp.paceDirection = .input ∧ s.ce.epochSource = .pace ∧ s.clu.source ≠ .pace
           ∧ s.ce.pass ≠ none)
      ∧ (let s := paceOut (source .pace (live true))
         s.powered = true ∧ s.mp.paceDirection = .output ∧ s.ce.pass = none)
      ∧ (let s := paceOut (passing 47 (live true))
         s.powered = true ∧ s.mp.paceDirection = .output ∧ s.ce.pass ≠ none) := by decide +kernel

theorem witness_PacePinFollowsItsDirection :
    (let s := live true
     let t := { s with mp := { s.mp with paceDirection := .output } }
     t.powered = true ∧ t.mp.paceDirection = .output ∧ t.clu.source ≠ .pace)
      ∧ ready (live true) ∧ (2 : Word) ≠ 0 ∧ (2 : Word) ≠ 1 := by decide +kernel

/-! ### Witnesses: the Meter Unit -/

/-- A window of 3 epochs with so many counted, and this pass. -/
def window (count : Nat) (pass : Option Nat) : State :=
  let s := live true
  { s with mu := { s.mu with windowLength := 3, windowCount := count, pass := pass } }

abbrev windowOpen (s : State) : Prop :=
  s.powered = true ∧ s.mp.paceDirection = .input ∧ s.ce.epochSource = .timer ∧ s.ce.pass = none
    ∧ s.mu.heldClose = none ∧ s.mu.windowCount < 255 ∧ s.mu.windowLength ≤ 255

theorem witness_WindowsCountAndClose :
    (windowOpen (window 1 none) ∧ 1 + 1 < (window 1 none).mu.windowLength)
      ∧ (windowOpen (window 2 none) ∧ (window 2 none).mu.windowLength ≤ 2 + 1)
      ∧ (windowOpen (window 2 (some 5)) ∧ (window 2 (some 5)).mu.pass ≠ none) := by decide +kernel

/-- Entry 20 with the limits of the worked sequence of chapter 8. -/
def metered (state : ReqState) (measured : Nat) (backlog : Bool) (counts : Nat) (sign : CrossSign) : State :=
  withEntry 20 (fun c => { c with enabled := true, lowLimit := 120, highLimit := 400, offset := 200, crossing := .both })
    (withMeter 20 (fun m => { m with state := state, overCount := counts, starveCount := counts, clearCount := counts,
                                     lastSign := sign, closing := closed measured backlog }) (live true))

abbrev isHigh (s : State) : Prop := s.rmu.entries[(20 : EntryIx)].highLimit < s.mu.entries[(20 : EntryIx)].closing.measured

abbrev isStarved (s : State) : Prop :=
  s.mu.entries[(20 : EntryIx)].closing.backlog = true
    ∧ s.mu.entries[(20 : EntryIx)].closing.measured
        < min s.rmu.entries[(20 : EntryIx)].lowLimit s.rmu.entries[(20 : EntryIx)].highLimit

abbrev inState (s : State) (x : ReqState) : Prop := s.mu.entries[(20 : EntryIx)].state = x

/-- M is 401 for high and 119 for starved, at the edges of the limits 400 and 120; the thresholds are 3, 5, 4, 4. -/
theorem witness_EvaluatingAnEntryWithItsEvents_states :
    (let s := metered .normal 401 true 2 .unknown
     inState s .normal ∧ isHigh s ∧ ¬ isStarved s ∧ s.mu.overDeclare ≤ min 255 (2 + 1))
      ∧ (let s := metered .normal 401 true 1 .unknown
         inState s .normal ∧ isHigh s ∧ ¬ isStarved s ∧ min 255 (1 + 1) < s.mu.overDeclare)
      ∧ (let s := metered .normal 119 true 3 .unknown
         inState s .normal ∧ ¬ isHigh s ∧ isStarved s ∧ s.mu.starveDeclare ≤ min 255 (3 + 1))
      ∧ (let s := metered .normal 119 true 2 .unknown
         inState s .normal ∧ ¬ isHigh s ∧ isStarved s ∧ min 255 (2 + 1) < s.mu.starveDeclare)
      ∧ (let s := metered .normal 120 true 2 .unknown
         inState s .normal ∧ ¬ isHigh s ∧ ¬ isStarved s)
      ∧ (let s := metered .over 401 true 2 .unknown
         inState s .over ∧ isHigh s)
      ∧ (let s := metered .over 400 true 4 .unknown
         inState s .over ∧ ¬ isHigh s ∧ ¬ isStarved s ∧ s.mu.overClear ≤ min 255 (4 + 1))
      ∧ (let s := metered .over 400 true 3 .unknown
         inState s .over ∧ ¬ isHigh s ∧ min 255 (3 + 1) < s.mu.overClear)
      ∧ (let s := metered .starved 119 true 3 .unknown
         inState s .starved ∧ isStarved s)
      ∧ (let s := metered .starved 119 false 3 .unknown
         inState s .starved ∧ ¬ isStarved s ∧ s.mu.starveClear ≤ min 255 (3 + 1))
      ∧ (let s := metered .starved 120 true 2 .unknown
         inState s .starved ∧ ¬ isStarved s ∧ min 255 (2 + 1) < s.mu.starveClear) := by decide +kernel

/-- The last sign ABOVE with M 199 under the offset of 200, and BELOW with M 200; the mode reports both. -/
theorem witness_EvaluatingAnEntryWithItsEvents_crossings :
    (let s := metered .normal 199 true 0 .above
     inState s .normal ∧ ¬ isHigh s ∧ ¬ isStarved s ∧ 0 < s.rmu.entries[(20 : EntryIx)].offset
       ∧ s.rmu.entries[(20 : EntryIx)].offset < 65535 ∧ s.mu.entries[(20 : EntryIx)].lastSign = .above
       ∧ s.mu.entries[(20 : EntryIx)].closing.measured < s.rmu.entries[(20 : EntryIx)].offset
       ∧ s.rmu.entries[(20 : EntryIx)].crossing = .both)
      ∧ (let s := metered .normal 200 true 0 .below
         inState s .normal ∧ ¬ isHigh s ∧ ¬ isStarved s ∧ s.mu.entries[(20 : EntryIx)].lastSign = .below
           ∧ s.rmu.entries[(20 : EntryIx)].offset ≤ s.mu.entries[(20 : EntryIx)].closing.measured)
      ∧ (metered .normal 200 true 0 .unknown).mu.entries[(20 : EntryIx)].lastSign = .unknown := by decide +kernel

def evaluating (x : EntryIx) (s : State) : State := { s with mu := { s.mu with pass := some x.val } }

theorem witness_PassAndInjectEvaluate :
    (let s := evaluating 1 (metered .normal 119 true 0 .unknown)
     s.powered = true ∧ s.mu.pass = some 1 ∧ s.mu.heldClose = none ∧ s.rmu.entries[(20 : EntryIx)].enabled = true
       ∧ s.mu.entries[(20 : EntryIx)].closing.evaluation = .pending
       ∧ (∀ x < (20 : EntryIx), 1 ≤ x.val → s.rmu.entries[x].enabled = true →
            s.mu.entries[x].closing.evaluation = .evaluated)
       ∧ ¬ ∃ x > (20 : EntryIx), s.rmu.entries[x].enabled = true ∧ s.mu.entries[x].closing.evaluation = .pending)
      ∧ (let s := evaluating 0 (withMeter 0 (fun m => { m with closing := closed 5 true })
           (metered .normal 119 true 0 .unknown))
         s.mu.pass = some 0 ∧ s.mu.heldClose = none ∧ s.rmu.entries[(0 : EntryIx)].enabled = true
           ∧ s.mu.entries[(0 : EntryIx)].closing.evaluation = .pending
           ∧ ∃ x > (0 : EntryIx), s.rmu.entries[x].enabled = true ∧ s.mu.entries[x].closing.evaluation = .pending)
      ∧ (let s := live true
         let t := { s with mp := { s.mp with mode := .halted } }
         ready t ∧ t.mp.mode = .halted ∧ t.rmu.entries[(0 : EntryIx)].enabled = true
           ∧ t.rmu.entries[(47 : EntryIx)].enabled = false ∧ (47 : Byte).toNat = (47 : EntryIx).val ∧ s.mp.mode ≠ .halted) := by
  decide +kernel

/-! ### Witnesses: the Change List Unit -/

def listUnit (source : TriggerSource) (armed : Bool) (countdown : Option Nat) (run : Option (Fin 32)) : State :=
  let s := live true
  { s with clu := { s.clu with source := source, armed := armed, countdown := countdown, run := run } }

theorem witness_TriggersStartTheRun :
    ready (live true) ∧ (listUnit .pace true none none).clu.source ≠ .go
      ∧ (let s := listUnit .go true none none
         ready s ∧ s.clu.source = .go ∧ s.clu.run = none ∧ s.clu.armed = true)
      ∧ (listUnit .go false none none).clu.armed = false
      ∧ (listUnit .go true none (some 31)).clu.run = some 31
      ∧ (let s := listUnit .countdown true (some 0) none
         s.clu.source = .countdown ∧ s.clu.countdown = some 0 ∧ s.clu.run = none ∧ s.clu.armed = true)
      ∧ (listUnit .countdown false (some 0) none).clu.armed = false
      ∧ (let s := listUnit .pace true none none
         s.clu.source = .pace ∧ s.mp.paceDirection = .input ∧ s.ce.epochSource = .timer ∧ s.clu.run = none
           ∧ s.clu.armed = true) := by decide +kernel

/-- A run at this position, with this entry there. -/
def running (p : Fin 32) (x : ListEntry) : State :=
  let s := listUnit .go true none (some p)
  { s with clu := { s.clu with list := s.clu.list.set p x } }

theorem witness_ChangeListAppliesItsEntries :
    (let s := running 31 ⟨9, 0, 0⟩
     ready s ∧ s.clu.run = some 31 ∧ s.clu.list[(31 : Fin 32)].kind = 9
       ∧ s.clu.list[(31 : Fin 32)].target.toNat = (0 : EntryIx).val)
      ∧ (running 0 ⟨0, 0, 0⟩).clu.list[(0 : Fin 32)].kind = 0 ∧ 12 < (running 0 ⟨13, 0, 0⟩).clu.list[(0 : Fin 32)].kind.toNat
      ∧ (let x := (running 0 ⟨9, 48, 0⟩).clu.list[(0 : Fin 32)]
         1 ≤ x.kind.toNat ∧ x.kind.toNat ≤ 9 ∧ 48 ≤ x.target.toNat)
      ∧ (let x := (running 0 ⟨5, 47, 0⟩).clu.list[(0 : Fin 32)]
         x.kind = 5 ∧ x.value = 0 ∧ x.target.toNat = (47 : EntryIx).val)
      ∧ 3 < (running 0 ⟨5, 47, 4⟩).clu.list[(0 : Fin 32)].value.toNat
      ∧ (live true).clu.run = none ∧ (running 0 ⟨0, 0, 0⟩).clu.run ≠ none := by decide +kernel

/-- Any entry can stand at any position of a run, so every clause about an entry's kind is met. -/
theorem witness_ChangeListAppliesItsEntries_any (p : Fin 32) (x : ListEntry) :
    (running p x).powered = true ∧ (running p x).clu.run = some p ∧ (running p x).clu.list[p] = x :=
  ⟨rfl, rfl, by simp [running]⟩

/-! ### Witnesses: the Management Port -/

def holding (x : Option HeldCounter) : State := { live true with mp := { (live true).mp with holding := x } }

theorem witness_ReadFieldAnswersTheFieldAsHeld :
    ready (holding (some ⟨47, 255⟩)) ∧ (holding (some ⟨47, 255⟩)).mp.holding = some ⟨47, 255⟩
      ∧ ((8 : Byte) = 0 ∨ 7 < (8 : Byte).toNat) ∧ ((1 : Byte) = 1 ∧ 48 ≤ (48 : Byte).toNat) := by decide +kernel

/-- The holding register holds another entry's high part. -/
theorem witness_ReadField_other_holding : ∀ n, (holding (some ⟨46, 255⟩)).mp.holding ≠ some ⟨47, n⟩ := by
  intro n h
  have hs : (holding (some ⟨46, 255⟩)).mp.holding = some ⟨46, 255⟩ := rfl
  rw [hs] at h
  have h47 : (46 : EntryIx) = 47 := congrArg HeldCounter.entry (Option.some.inj h)
  exact absurd h47 (by decide)

theorem witness_WriteFieldStoresClampedOrRefuses :
    ready (live true) ∧ 3 < (4 : Word).toNat ∧ ((84 : Word) ≠ 0 ∧ (84 : Word) ≠ 85 ∧ (84 : Word) ≠ 171 ∧ (84 : Word) ≠ 256)
      ∧ 1 < (2 : Word).toNat := by decide +kernel

theorem witness_EnablingAndDisablingAnEntry :
    (let s := live true
     ready s ∧ s.up.linkUp = true ∧ s.rmu.entries[(47 : EntryIx)].enabled = false
       ∧ s.rmu.entries[(0 : EntryIx)].enabled = true)
      ∧ (let s := withEntry 47 (fun c => { c with enabled := true }) (live true)
         ready s ∧ (47 : EntryIx) ≠ 0 ∧ s.rmu.entries[(47 : EntryIx)].enabled = true ∧ s.up.linkUp = true) := by
  decide +kernel

theorem witness_CapWritesClampTheCredit :
    ready (live true) ∧ (live true).rmu.entries[(0 : EntryIx)].enabled = true
      ∧ (live true).rmu.entries[(1 : EntryIx)].enabled = false := by decide +kernel

theorem witness_WheelSettingsWaitForTheRound :
    ready (live true) ∧ (∃ l ∈ wheelLanes (live true), ((live true).gw.lanes.get l).motion = .walking)
      ∧ (let s := idle .splitFree .continuous
         (∀ l ∈ wheelLanes s, (s.gw.lanes.get l).motion ≠ .walking) ∧ LaneSplit.shared ≠ s.gw.appliedSplit)
      ∧ 2 < (3 : Word).toNat ∧ 1 < (2 : Word).toNat := by decide +kernel

def inMode (m : Mode) (link : Bool) : State :=
  let s := State.powerOn true
  { s with mp := { s.mp with mode := m }, dp := { s.dp with linkUp := link } }

theorem witness_ModeCommandsChangeTheMode :
    (let s := live false
     ready s ∧ s.mp.mode = .bypass ∧ s.gw.grants = [])
      ∧ (let s := live true
         ready s ∧ s.mp.mode = .regulate ∧ s.gw.grants = [] ∧ s.mp.mode ≠ .halted ∧ s.mp.mode ≠ .bypass)
      ∧ (let s := inMode .halted true
         ready s ∧ s.mp.mode = .halted ∧ s.mp.mode ≠ .regulate ∧ s.dp.linkUp = true ∧ s.gw.grants = []
           ∧ settingsSame s ∧ ∀ l ∈ lanesActive s, (s.gw.lanes.get l).motion = .stopped)
      ∧ (inMode .halted false).dp.linkUp = false := by decide +kernel

theorem witness_StatusIsAnsweredAsItStands : ready (live true) := by decide +kernel

theorem witness_PopEventTakesTheOldestRecord :
    (ready fullQueue ∧ fullQueue.mp.events.length = 32
        ∧ fullQueue.mp.eventMask.getLsbD (eventCode .epochOverrun) = true
        ∧ fullQueue.mp.events = ⟨.epochOverrun, none, none, 0⟩ :: List.replicate 31 ⟨.epochOverrun, none, none, 0⟩)
      ∧ ready (live true) ∧ (live true).mp.events = [] ∧ Instr.upEndMark ≠ .popEvent := by decide +kernel

theorem witness_AlertFollowsTheEventQueue :
    (let t := { live true with mp := { (live true).mp with events := [⟨.epochOverrun, none, none, 0⟩] } }
     ready t ∧ t.mp.events = [⟨.epochOverrun, none, none, 0⟩])
      ∧ (live true).mp.eventMask.getLsbD (eventCode .epochOverrun) = true ∧ (live true).mp.events = []
      ∧ fullQueue.mp.events.length = 32 := by decide +kernel

theorem witness_ArrivalCounterStampsHolds :
    (let s := withQueue [arrivedRead] .stray (live true)
     s.powered = true ∧ s.up.queue = arrivedRead :: [] ∧ headOffered s = true ∧ verdictOf arrivedRead.header s = .hold 0
       ∧ arrivedRead.closing = none ∧ arrivedRead.beats = [] ∧ (after .disposition s).hs.held.length = 1)
      ∧ Instr.upEndMark ≠ .disposition := by decide +kernel


/-! ### Further tests: what this model settles, and answers -/

/-- CLAMPED is 01h; the value follows, most significant byte first, as do the bits of each byte. -/
theorem test_answer_bytes :
    answerBits ⟨.clamped, 0x00040002⟩ = 0x01_00040002 ∧ answerOfBits 0x03_00000000 = some ⟨.badTarget, 0⟩
      ∧ answerOfBits 0x04_00000000 = none
      ∧ shiftedOut 8 ⟨.clamped, 0xFFFFFFFF⟩ = [false, false, false, false, false, false, false, true] := by decide

/-- Two reads fenced on one write: its release wakes the other lane twice, which then stands in a woken round. -/
theorem test_two_lifts_are_two_wakes :
    let s := withHeld [heldW, heldR, { heldR with number := 2, txn := reqTxn .read 3 511 }]
      [cellsW 512 .complete .pending] (live true)
    let t := after (.slotVisit .write)
      { s with gw := { s.gw with lanes := { s.gw.lanes with read := ⟨.idle, 0, .arrive, false, false, false⟩,
                                                            write := ⟨.walking, 11, .arrive, false, false, false⟩ } } }
    t.hs.held.map (·.fence) = [none, none] ∧ t.gw.lanes.read = ⟨.walking, 0, .arrive, false, true, false⟩ := by
  decide +kernel

/-- The mismatch frees the write's cell and ends pressure: the act is taken whole before pressure is evaluated. -/
theorem test_protocol_fault_before_pressure_off :
    let s := { busy with hs := { busy.hs with pressureOn := true }, mp := { busy.mp with eventMask := 0x1FFFFE } }
    (after .upEndMark s).mp.events.map (·.kind) = [.protocolFault, .poolPressureOff] := by decide +kernel

/-- An older write of entry 0, kept by the write lane, for which memory's credits do not suffice; the SHARED lane holds
the next of its list. -/
def behind : State :=
  let s := withGrants [grantW false, ⟨.shared, 0, ⟨.write, 0x0300, 8, 0x9000, 63⟩, some 1, false⟩] (live true)
  { s with gw := { s.gw with storedSplit := .shared, appliedSplit := .shared }, dp := { s.dp with dataCredits := 7 } }

theorem test_one_list_keeps_its_order : chooseGrant behind = none := by decide +kernel

theorem test_reenabled_entry_is_passed_over :
    let s := after (.enable 20) (after (.disable 20)
      (withEntry 20 (fun c => { c with enabled := true }) (passing 20 (live true))))
    let t := after .refillLanding s
    t.ce.records[20] = s.ce.records[20] ∧ t.ce.accumulator = 667 ∧ (t.ce.pass.map (·.next)) = some 21 := by
  decide +kernel

/-- A wake reaches a lane that was IDLE before the settings were written, and not one that has ended its round since. -/
theorem test_wakes_while_a_changeover_waits :
    let s := idle .splitFree .continuous
    let t := fun held : Bool =>
      { s with gw := { s.gw with storedSplit := .shared,
                                 lanes := { s.gw.lanes with read := ⟨.idle, 0, .arrive, false, false, held⟩,
                                                            write := ⟨.walking, 9, .arrive, false, false, false⟩ } } }
    (wake (t false)).gw.lanes.read.motion = .walking ∧ (wake (t true)).gw.lanes.read.motion = .idle := by decide +kernel

/-! ### Further witnesses: each clause that a premise of its own guards -/

theorem witness_CreditStaysInBounds_pass : PassLaw (passing 0 (live true)) ∧ (passing 0 (live true)).ce.pass ≠ none := by
  decide +kernel

theorem witness_ConfigurationChangesOnlyByWrites_softReset :
    busy.clu.run = none ∧ Settled busy ∧ (∃ pin, Instr.softReset true = .softReset pin)
      ∧ mayConfigure .upEndMark = false ∧ frameOf .upEndMark = none := by
  refine ⟨by decide +kernel, by decide +kernel, ⟨true, rfl⟩, rfl, rfl⟩

theorem witness_LayoutsCarryEveryField_answers : (40 : Nat) ≤ 40 ∧ answerOfBits 0x02_00000002 = some ⟨.refusedState, 2⟩ := by
  decide

/-- A lane that has ended its round waits only while the settings differ. -/
theorem witness_WakesReachTheLanes_held :
    (let s := idle .splitFree .continuous
     let t := { s with gw := { s.gw with lanes := { s.gw.lanes with read := ⟨.idle, 0, .arrive, false, false, true⟩ } } }
     laneState t .read = .idle ∧ (t.gw.lanes.get .read).held = true ∧ settingsSame t)
      ∧ (let s := idle .splitFree .continuous
         let t := { s with gw := { s.gw with storedSplit := .shared,
                                             lanes := { s.gw.lanes with read := ⟨.idle, 0, .arrive, false, false, true⟩ } } }
         laneState t .read = .idle ∧ (t.gw.lanes.get .read).held = true ∧ ¬ settingsSame t) := by decide +kernel

/-! #### Writes that are cut -/

/-- What every clause about an arriving write asks. -/
abbrev arriving (s : State) (r : Reservation) : Prop :=
  s.powered = true ∧ s.up.linkUp = true ∧ s.up.reception = .cells 0 ∧ reservationAt s 0 = some r ∧ r.data = .receiving
    ∧ queuedBeats s.up < 64 ∧ 1 ≤ s.up.dataAdvertised

/-- One byte more than the write's length, a beat after a short one, and a header behind seven others. -/
theorem witness_CutWritesAreDiscarded_held :
    (let s := withQueue [] (.cells 0) (withHeld [heldW] [cellsW 512 .receiving .pending] (live true))
     arriving s (cellsW 512 .receiving .pending) ∧ heldWrite s 0 = some heldW
       ∧ txnLength (reqTxn .write 1 511) < 512 + (List.replicate 1 (0 : Byte)).length)
      ∧ (let s := withQueue [] (.cells 0) (withHeld [heldW] [cellsW 63 .receiving .pending] (live true))
         arriving s (cellsW 63 .receiving .pending) ∧ 63 % 64 ≠ 0)
      ∧ (let s := withQueue (List.replicate 7 arrivedRead) (.cells 0)
           (withHeld [heldW] [cellsW 64 .receiving .pending] (live true))
         arriving s (cellsW 64 .receiving .pending) ∧ s.up.queue.length < 8) := by decide +kernel

/-- The write released and in flight, sent or waiting in its lane, 512 bytes received of 512 or fewer. -/
def released (received : Nat) (sent : Bool) (orphan : Bool) : State :=
  let s := withQueue [] (.cells 0)
    (withHeld [] [cellsW received .receiving (if sent then .sending else .pending)] (live true))
  let t := withFlight [⟨reqTxn .write 1 511, 0, if sent then .sending else .granted, none, orphan⟩] s
  if sent then { t with dp := { t.dp with sending := some ⟨reqTxn .write 1 511, 0, 0, 1, false⟩ } }
  else withGrants [⟨.write, 0, reqTxn .write 1 511, some 0, false⟩] t

theorem witness_CutWritesAreDiscarded_sent :
    (let s := released 64 true true
     arriving s (cellsW 64 .receiving .sending) ∧ heldWrite s 0 = none ∧ (64 : Nat) ≠ txnLength (reqTxn .write 1 511)
       ∧ flightOf s 0x0300 1 = some ⟨reqTxn .write 1 511, 0, .sending, none, true⟩
       ∧ s.dp.sending = some ⟨reqTxn .write 1 511, 0, 0, 1, false⟩)
      ∧ (let s := released 512 true false
         arriving s (cellsW 512 .receiving .sending) ∧ heldWrite s 0 = none
           ∧ txnLength (reqTxn .write 1 511) < 512 + (List.replicate 1 (0 : Byte)).length
           ∧ (flightOf s 0x0300 1).isSome = true) := by decide +kernel

theorem witness_CutWritesAreDiscarded_waiting :
    let s := released 64 false false
    arriving s (cellsW 64 .receiving .pending) ∧ heldWrite s 0 = none ∧ (cellsW 64 .receiving .pending).transmission ≠ .done
      ∧ (flightOf s 0x0300 1).isSome = true ∧ s.dp.sending = none ∧ s.gw.grants.map (·.cells) = [some 0] := by
  decide +kernel

/-- With the link going down: a released write cut while sent and while it waits, one that drains, and none. -/
theorem witness_UpLinkDownDiscardsHeldWork_cut :
    (arriving (released 64 true false) (cellsW 64 .receiving .sending) ∧ heldWrite (released 64 true false) 0 = none)
      ∧ (arriving (released 64 false false) (cellsW 64 .receiving .pending) ∧ heldWrite (released 64 false false) 0 = none)
      ∧ (let s := withQueue [] (.cells 0) (withHeld [] [cellsW 64 .draining .done] (live true))
         s.up.linkUp = true ∧ heldWrite s 0 = none ∧ reservationAt s 0 = some (cellsW 64 .draining .done))
      ∧ (live true).up.reception = .stray ∧ heldWrite busy 0 ≠ none := by decide +kernel

/-! #### Writes whose units wait in the queue -/

def waitingWrite (beats : List Beat) (closing : Option Closing) : ArrivalPacket :=
  ⟨reqHeader 2 5 511, beats, closing, false⟩

/-- What the clause of a write with units waiting asks, with cell 0 the first it is given. -/
abbrev fits (p : ArrivalPacket) (r : UpReception) (bytes : Nat) : Prop :=
  let s := offered p r [freeR] id
  headReady s p ∧ passesAll s p.header ∧ (txnOf p.header).kind = .write
    ∧ (txnLength (txnOf p.header) + 511) / 512 ≤ freeCells s ∧ PoolLaw s ∧ MemoryLaw s ∧ FenceLaw s ∧ WriteLaw s
    ∧ p.beats.flatten.length = bytes ∧ bytes ≤ txnLength (txnOf p.header) ∧ (∀ b ∈ p.beats.dropLast, b.length = 64)
    ∧ heldWrite s 0 = none

theorem witness_DispositionHoldsTheHead_waiting_beats :
    fits (waitingWrite [List.replicate 64 1, List.replicate 64 2] none) .queued 128 := by decide +kernel

theorem witness_DispositionHoldsTheHead_complete :
    fits (waitingWrite (List.replicate 8 (List.replicate 64 1)) (some .endMark)) .stray 512 := by decide +kernel

theorem witness_DispositionHoldsTheHead_closed_early :
    fits (waitingWrite [List.replicate 63 1] (some .endMark)) .stray 63
      ∧ fits (waitingWrite (List.replicate 8 (List.replicate 64 1)) (some .nextHeader)) .stray 512
      ∧ fits (waitingWrite [] (some .abortMark)) .stray 0 :=
  ⟨by decide +kernel, by decide +kernel, by decide +kernel⟩

/-! #### Sending and the wheel -/

/-- After a changeover to SHARED the read lane only keeps its release. -/
theorem witness_LinkArbiterChoosesAReadyRelease_kept :
    let s := withGrants [grantR, ⟨.shared, 0, ⟨.read, 0x0300, 8, 0x9000, 63⟩, none, false⟩] (live true)
    let t := { s with gw := { s.gw with appliedSplit := .shared } }
    grantR.holder ∉ lanesActive t ∧ t.dp.sending = none ∧ t.dp.linkUp = true ∧ 1 ≤ t.dp.headerCredits
      ∧ requestBeats grantR.txn ≤ t.dp.dataCredits ∧ effectiveMode t = .regulate ∧ chooseGrant t = some grantR := by
  decide +kernel

/-- A read awaiting under its timer beside the granted pair. -/
theorem witness_PacketsBeginWithTheirHeader_beside_a_timer :
    let s := withFlight [flying .read 9 .awaiting (some 200) false, ⟨reqTxn .read 3 63, 0, .granted, none, false⟩]
      (granted grantR [])
    PoolLaw s ∧ chooseGrant s = some grantR
      ∧ (∀ f ∈ s.fu.table, f.txn.requesterId = grantR.txn.requesterId → f.txn.tag = grantR.txn.tag → f.phase = .granted)
      ∧ PoolLaw (granted (grantW false) [cellsW 64 .receiving .pending])
      ∧ PoolLaw (granted (grantW true) [cellsW 64 .draining .pending])
      ∧ PoolLaw (granted (grantW true) [cellsW 64 .closed .pending]) := by decide +kernel

/-- In BYPASS the drain lane's release begins and the read lane's is left. -/
theorem witness_PacketsBeginWithTheirHeader_takeover :
    let s := withGrants [grantR, { grantW false with holder := .drain }]
      (withHeld [] [cellsW 64 .receiving .pending] (live false))
    s.powered = true ∧ PoolLaw s ∧ effectiveMode s = .bypass ∧ chooseGrant s = some { grantW false with holder := .drain }
      ∧ s.gw.grants.filter (fun x => x.holder != .drain) = [grantR] := by decide +kernel

theorem witness_UnitsAreSentAsTheyBecomeReady_pools :
    PoolLaw (sendingAt 7 512 .receiving false) ∧ PoolLaw (sendingAt 8 512 .complete false)
      ∧ PoolLaw (sendingAt 8 512 .receiving false) := by decide +kernel

/-- A round's end while the stored settings differ, the other lane walking or not, and the ends of SPLIT_LOCKED. -/
theorem witness_RoundsEndAndPairsStep_more :
    (let s := slotOff 12 (walkingAt 12 oneWrite)
     let t := { s with gw := { s.gw with storedPacing := .paced } }
     lanesWalk t .write ∧ ¬ settingsSame t ∧ t.gw.slots[(12 : Fin 16)].enabled = false
       ∧ ∃ k ∈ wheelLanes t, k ≠ .write ∧ (t.gw.lanes.get k).motion = .walking)
      ∧ (let s := slotOff 12 (walkingAt 12 oneWrite)
         let t := { s with gw := { s.gw with storedPacing := .paced,
                                             lanes := { s.gw.lanes with read := ⟨.idle, 0, .arrive, false, false, true⟩ } } }
         lanesWalk t .write ∧ ¬ settingsSame t
           ∧ ∀ k ∈ wheelLanes t, k ≠ .write → (t.gw.lanes.get k).motion ≠ .walking)
      ∧ (let s := slotOff 15 (locked 6 14 .done .continuous (live true))
         pairWalks s ∧ settingsSame s ∧ s.gw.lanes.read.slot ≠ 7 ∧ s.gw.slots[(15 : Fin 16)].enabled = false)
      ∧ (let s := locked 7 15 .done .continuous (live true)
         let t := { s with gw := { s.gw with lanes := { s.gw.lanes with write := ⟨.walking, 15, .done, true, false, false⟩ } } }
         pairWalks t ∧ settingsSame t ∧ t.gw.appliedPacing = .continuous ∧ t.gw.lanes.write.released = true) := by
  decide +kernel

/-! #### Epochs, windows, triggers -/

/-- The lowest entry of the snapshot not dealt with, enabled throughout and enabled since. -/
theorem witness_RefillsAreComputedAndLand_next :
    (let s := passing 8 (withEntry 12 (fun c => { c with enabled := true }) (live true))
     let r : SnapshotRow := ⟨12, 2000, 65535, 16, .twoThirds, .formula, 0, .normal, false⟩
     PassLaw s ∧ r ∈ workedSnapshot.rows ∧ 8 ≤ r.entry.val
       ∧ (∀ x ∈ workedSnapshot.rows, 8 ≤ x.entry.val → r.entry ≤ x.entry) ∧ s.rmu.entries[r.entry].enabled = true
       ∧ r.entry ∉ ([] : List EntryIx))
      ∧ (let s := passing 8 (withEntry 12 (fun c => { c with enabled := true }) (live true))
         let t := { s with ce := { s.ce with pass := some ⟨workedSnapshot, 8, [12]⟩ } }
         t.powered = true ∧ PassLaw t ∧ (12 : EntryIx) ∈ ([12] : List EntryIx))
      ∧ (∀ x ∈ workedSnapshot.rows, x.entry.val < 21) := by decide +kernel

theorem witness_EpochExpiriesAreTakenOrMissed_paced :
    (let s := idle .splitLocked .paced
     LaneName.read ∈ wheelLanes s ∧ laneState s .read = .idle ∧ settingsSame s ∧ s.ce.pass = none)
      ∧ (let s := passing 47 (idle .splitFree .paced)
         LaneName.write ∈ wheelLanes s ∧ laneState s .write = .idle ∧ (s.gw.lanes.get .write).held = false
           ∧ s.ce.pass ≠ none) := by decide +kernel

theorem witness_WindowsCountAndClose_held :
    let s := window 3 (some 5)
    let t := { s with mu := { s.mu with heldClose := some 254 } }
    t.powered = true ∧ t.mp.paceDirection = .input ∧ t.ce.epochSource = .timer ∧ t.ce.pass = none
      ∧ t.mu.heldClose = some 254 := by decide +kernel

/-- The last entry's step with a close held, and a pass with nothing left. -/
theorem witness_PassAndInjectEvaluate_ends :
    (let s := evaluating 20 (metered .normal 119 true 0 .unknown)
     let t := { s with mu := { s.mu with heldClose := some 2 } }
     t.mu.pass = some 20 ∧ t.mu.heldClose = some 2
       ∧ ¬ ∃ x > (20 : EntryIx), t.rmu.entries[x].enabled = true ∧ t.mu.entries[x].closing.evaluation = .pending)
      ∧ (let s := evaluating 0 (live true)
         s.powered = true ∧ s.mu.pass = some 0 ∧ s.mu.heldClose = none
           ∧ ∀ x : EntryIx, 0 ≤ x.val → s.rmu.entries[x].enabled = true →
               s.mu.entries[x].closing.evaluation = .evaluated) := by decide +kernel

theorem witness_TriggersStartTheRun_more :
    (let s := listUnit .alarm true none none
     TriggerSource.alarm = s.clu.source ∧ s.clu.run = none ∧ s.clu.armed = true)
      ∧ ((listUnit .alarm true none (some 3)).clu.run = some 3 ∧ TriggerSource.go ≠ (listUnit .alarm true none none).clu.source)
      ∧ (let s := listUnit .countdown true (some 0) (some 3)
         s.clu.source = .countdown ∧ s.clu.countdown = some 0 ∧ s.clu.run = some 3)
      ∧ (let s := source .pace (listUnit .pace true none none)
         s.ce.epochSource = .pace ∧ s.mp.paceDirection = .input ∧ s.clu.source = .pace ∧ s.clu.run = none)
      ∧ (let s := listUnit .pace true none (some 3)
         let t := { s with mp := { s.mp with paceDirection := .output } }
         t.powered = true ∧ t.clu.source = .pace ∧ t.mp.paceDirection = .output ∧ t.clu.run = some 3 ∧ t.ce.pass = none
           ∧ s.mp.paceDirection = .input ∧ s.ce.epochSource = .timer) := by decide +kernel

/-- SET_SLOT at slot 15 with class BULK and enabled, its target at 16, its class at 4; DISABLE of entry 47. -/
theorem witness_ChangeListAppliesItsEntries_more :
    (let x := (running 0 ⟨10, 15, 0x102⟩).clu.list[(0 : Fin 32)]
     x.kind = 10 ∧ x.target.toNat = (15 : Fin 16).val ∧ x.value.toNat % 256 = classCode .bulk)
      ∧ 16 ≤ (running 0 ⟨10, 16, 0x102⟩).clu.list[(0 : Fin 32)].target.toNat
      ∧ 3 < (running 0 ⟨10, 15, 4⟩).clu.list[(0 : Fin 32)].value.toNat % 256
      ∧ (let x := (running 0 ⟨9, 47, 0⟩).clu.list[(0 : Fin 32)]
         listKindOf x.kind.toNat = some .disable ∧ ListKind.disable ≠ .fin ∧ x.target.toNat = (47 : EntryIx).val
           ∧ (47 : EntryIx) ≠ 0) := by decide +kernel

/-! #### Management -/

theorem witness_WriteFieldStoresClampedOrRefuses_slots :
    (2 : Word).toNat = classCode .bulk ∧ 3 < (4 : Word).toNat ∧ (live true).rmu.classes.get .bulk = ⟨false, 256, .defer⟩
      ∧ (65 : Word).toNat ≤ 128 := by decide +kernel

/-- Entry 47 with one write held: its data RECEIVING, or COMPLETE; and a head that has stalled. -/
theorem witness_EnablingAndDisablingAnEntry_cells :
    let d : Descriptor := { heldW with entry := 47 }
    let s := fun r : Reservation => withEntry 47 (fun c => { c with enabled := true })
      (withHeld [d] [{ r with entry := 47 }] { live true with hs := { (live true).hs with stalled := true } })
    let a := s (cellsW 64 .receiving .pending)
    let b := s (cellsW 512 .complete .pending)
    PoolLaw a ∧ PoolLaw b ∧ d.cells = some 0 ∧ reservationAt a 0 = some { cellsW 64 .receiving .pending with entry := 47 }
      ∧ reservationAt b 0 = some { cellsW 512 .complete .pending with entry := 47 } ∧ a.hs.stalled = true := by
  decide +kernel

/-- A release that the drain lane holds at ENGAGE, with its lane free and not; one of the read lane at BYPASS. -/
theorem witness_ModeCommandsChangeTheMode_grants :
    (let s := withGrants [{ grantR with holder := .drain }] (live false)
     s.mp.mode = .bypass ∧ grantOf s .drain = some { grantR with holder := .drain } ∧ grantOf s .read = none
       ∧ s.gw.storedSplit ≠ .shared)
      ∧ (let s := withGrants [grantR, { grantR with holder := .drain }] (live false)
         grantOf s .drain = some { grantR with holder := .drain } ∧ grantOf s .read ≠ none)
      ∧ (let s := withGrants [grantR] (live true)
         s.mp.mode = .regulate ∧ grantOf s .drain = none ∧ s.gw.grants = grantR :: []) := by decide +kernel

/-- A hold with beats and an abort mark waiting, and a head that is answered. -/
theorem witness_ArrivalCounterStampsHolds_more :
    (let s := offered (waitingWrite [List.replicate 64 1] (some .abortMark)) .stray [freeR] id
     s.powered = true ∧ headOffered s = true ∧ verdictOf (reqHeader 2 5 511) s = .hold 0
       ∧ (after .disposition s).hs.held = [freeR] ∧ (after .disposition s).hs.arrivalCounter = 3)
      ∧ (let s := offered badRead .stray [] id
         s.powered = true ∧ headOffered s = true ∧ verdictOf badRead.header s ≠ .hold 0
           ∧ (after .disposition s).hs.arrivalCounter = 2) := by decide +kernel

/-! #### The premises and clauses about writes, the arbiters and the wheel -/

/-- The write in the cells, held, granted, being sent and cut, with both laws of its reservation. -/
abbrev writesWhole (s : State) : Prop := PoolLaw s ∧ FreedLaw s ∧ WriteLaw s

theorem witness_PoolsStayWhole_writes :
    writesWhole busy ∧ writesWhole (released 64 true false) ∧ writesWhole (released 64 false false)
      ∧ writesWhole (queued .upLinkDown busy) :=
  ⟨by decide +kernel, by decide +kernel, by decide +kernel, by decide +kernel⟩

/-- With the link going down: a write held, one sent, one granted, one that drains, and none. -/
theorem witness_UpLinkDownDiscardsHeldWork_writes :
    writesWhole busy ∧ writesWhole (released 64 true false) ∧ writesWhole (released 64 false false)
      ∧ writesWhole (withQueue [] (.cells 0) (withHeld [] [cellsW 64 .draining .done] (live true)))
      ∧ writesWhole (live true) :=
  ⟨by decide +kernel, by decide +kernel, by decide +kernel, by decide +kernel, by decide +kernel⟩

/-- A held write whose reservation drains is what the premise rules out. -/
theorem test_a_held_write_never_drains :
    ¬ WriteLaw (withQueue [] (.cells 0) (withHeld [heldW] [cellsW 64 .draining .pending] (live true))) := by decide +kernel

/-- The drain lane WALKING and STOPPED, and lanes that are not active. -/
theorem witness_WakesReachTheLanes_others :
    laneState (live false) .drain = .walking ∧ laneState (State.powerOn false) .drain = .stopped
      ∧ LaneName.read ∉ lanesActive (live false) ∧ LaneName.drain ∉ lanesActive (live true) := by decide +kernel

/-- An end mark at the full count after a lost beat, and the next header while the write is sent and while it waits. -/
theorem witness_CutWritesAreDiscarded_lost :
    (let r : Reservation := { cellsW 512 .receiving .pending with lostBeat := true }
     let s := withQueue [] (.cells 0) (withHeld [heldW] [r] (live true))
     arriving s r ∧ heldWrite s 0 = some heldW ∧ r.received = txnLength r.txn ∧ r.lostBeat = true)
      ∧ (let r : Reservation := { cellsW 512 .receiving .sending with lostBeat := true }
         let s := released 512 true false
         let t := { s with hs := { s.hs with reservations := [r] } }
         arriving t r ∧ heldWrite t 0 = none ∧ (flightOf t 0x0300 1).isSome = true ∧ r.lostBeat = true)
      ∧ (released 64 true false).up.queue.length < 8 ∧ (released 64 false false).up.queue.length < 8 := by decide +kernel

/-- A released write that the next header closes early is answered PROTOCOL and ends with an abort mark. -/
theorem test_next_header_closes_a_released_write :
    let t := after (.upHeaderArrival (reqHeader 1 5 63)) (released 64 true false)
    t.dp.sending = none ∧ t.dp.sent = [.mark .abortMark] ∧ t.fu.table = [] ∧ t.hs.reservations = []
      ∧ t.up.generated = [answerTxn (reqTxn .write 1 511) .protocol] ∧ t.up.queue.length = 1 := by decide +kernel

/-- The window of 4-KiB unit 1 alone, and a pair in flight. -/
theorem witness_DispositionChecksInOrder_meanings :
    requestMalformed (reqHeader 3 5 63) = true ∧ requestMalformed { reqHeader 1 5 4095 with address := 0xFFFFFFFFF001 } = true
      ∧ requestMalformed { reqHeader 1 5 4095 with address := 0xFFFFFFFFF000 } = false
      ∧ (let c : EntryConfig := { powerOnEntry 2 with windowBase := 1, windowLimit := 1 }
         inWindow c ⟨.read, 0, 0, 0x1000, 4095⟩ = true ∧ inWindow c ⟨.read, 0, 0, 0x1001, 4095⟩ = false)
      ∧ pairInUse (withFlight [flying .read 4 .awaiting none false] (live true)) 0x0300 4 = true := by decide +kernel

/-! #### Responses from memory -/

def respondingAt (r : DownReception) (whole : List Response) (f : List FlightEntry) : State :=
  let s := withFlight f (live true)
  { s with dp := { s.dp with reception := r, whole := whole } }

/-- A header under which a response is under way, or one is found malformed; four whole responses. -/
theorem witness_ResponsesFromMemory_more_headers :
    (let s := respondingAt (.receiving memoryRead) [] []
     s.powered = true ∧ s.dp.linkUp = true ∧ s.dp.reception = .receiving memoryRead)
      ∧ (respondingAt .discarding [] []).dp.reception = .discarding
      ∧ (let s := respondingAt .stray (List.replicate 4 memoryRead) []
         s.dp.reception = .stray ∧ 4 ≤ s.dp.whole.length) := by decide +kernel

/-- The last beat of a response whose flight entry is an orphan, or gone; a beat when 64 are held; a stray beat. -/
theorem witness_ResponsesFromMemory_more_beats :
    (let r : Response := ⟨respHeader 9 4 99, [List.replicate 64 0]⟩
     let s := respondingAt (.receiving r) [] [flying .read 4 .awaiting (some 9) true]
     responseMatch s r.header = some (flying .read 4 .awaiting (some 9) true) ∧ PairLaw s ∧ beatPlacesTaken s.dp < 64
       ∧ 1 ≤ s.dp.dataAdvertised ∧ responseMatch (respondingAt (.receiving r) [] []) r.header = none)
      ∧ (let big : Response := ⟨respHeader 9 9 4095, List.replicate 64 (List.replicate 64 0)⟩
         let s := respondingAt (.receiving ⟨respHeader 9 4 99, []⟩) [big] []
         s.dp.reception = .receiving ⟨respHeader 9 4 99, []⟩ ∧ 64 ≤ beatPlacesTaken s.dp)
      ∧ (respondingAt .stray [] []).dp.reception = .stray := by decide +kernel

/-- A write's flight entry does not answer a read's response, nor one not yet AWAITING. -/
theorem test_response_kinds_and_phases :
    responseMatch (withFlight [flying .write 4 .awaiting none false] (live true)) (respHeader 9 4 63) = none
      ∧ responseMatch (withFlight [flying .read 4 .granted none false] (live true)) (respHeader 9 4 63) = none := by
  decide +kernel

/-! #### The link arbiter -/

/-- Neither lane has sent: the read lane goes first, though the write lane's release is the older. -/
theorem witness_LinkArbiterChoosesAReadyRelease_none_sent :
    let s := withGrants [grantW false, grantR] (live true)
    GrantLaw s ∧ s.dp.lastLane = none ∧ (∀ x ∈ s.gw.grants, x.holder ∈ lanesActive s) ∧ chooseGrant s = some grantR := by
  decide +kernel

/-- A kept release that is ready behind a ready one of an active lane, and in BYPASS one left beside the drain lane's. -/
theorem witness_LinkArbiterChoosesAReadyRelease_left :
    (let s := withGrants [⟨.shared, 0, ⟨.read, 0x0300, 8, 0x9000, 63⟩, none, false⟩, grantW false] (live true)
     let t := { s with gw := { s.gw with appliedSplit := .shared } }
     GrantLaw t ∧ (grantW false).holder ∉ lanesActive t ∧ (chooseGrant t).map (·.holder) = some .shared)
      ∧ (let s := withGrants [grantR, { grantW false with holder := .drain }] (live false)
         GrantLaw s ∧ effectiveMode s = .bypass ∧ (chooseGrant s).map (·.holder) = some .drain) := by decide +kernel

/-- The downstream link goes down with a granted write's release: its reservation is DONE, or freed if its data is
closed. -/
theorem witness_DownLinkDownAndUp_dropped :
    (let s := granted (grantW false) [cellsW 64 .receiving .pending]
     PoolLaw s ∧ s.powered = true ∧ s.dp.linkUp = true ∧ s.up.linkUp = true ∧ s.gw.grants.map (·.cells) = [some 0]
       ∧ (after .downLinkDown s).hs.reservations = [cellsW 64 .receiving .done]
       ∧ (after .downLinkDown s).mp.events.map (·.kind) = [.downLinkDown])
      ∧ (let s := granted (grantW true) [cellsW 64 .closed .pending]
         PoolLaw s ∧ (after .downLinkDown s).hs.reservations = []) := by decide +kernel

/-! #### The wheel's corners -/

/-- The ends of a SPLIT_LOCKED round while SHARED is stored: at a disabled slot, at the next pair, and after pair 7. -/
theorem witness_RoundsEndAndPairsStep_changeover :
    let stored := fun s : State => { s with gw := { s.gw with storedSplit := .shared } }
    (let s := stored (slotOff 8 (locked 0 8 .arrive .continuous (live true)))
     pairWalks s ∧ ¬ settingsSame s ∧ s.gw.slots[(8 : Fin 16)].enabled = false)
      ∧ (let s := stored (slotOff 15 (locked 6 14 .done .paced (live true)))
         pairWalks s ∧ ¬ settingsSame s ∧ s.gw.slots[(15 : Fin 16)].enabled = false)
      ∧ (let s := stored (locked 7 15 .done .continuous (live true))
         pairWalks s ∧ ¬ settingsSame s ∧ s.gw.lanes.read.slot = 7
           ∧ (after .slotPairStep s).gw.lanes.shared.motion = .walking) := by decide +kernel

/-- Both split lanes wait for their releases, in HALTED, at slots 5 and 9; SPLIT_LOCKED is stored. -/
def haltedApart : State :=
  let s := withGrants [grantR, ⟨.write, 0, ⟨.write, 0x0300, 8, 0x9000, 63⟩, some 0, false⟩] (live true)
  { s with gw := { s.gw with storedSplit := .splitLocked,
                             lanes := { s.gw.lanes with read := ⟨.walking, 5, .arrive, true, false, false⟩,
                                                        write := ⟨.walking, 9, .arrive, true, false, false⟩ } },
           mp := { s.mp with mode := .halted } }

/-- R80, R99: after the soft reset and RESUME the two stand at pair 0, still waiting (assumption 12). -/
theorem test_resume_brings_locked_lanes_to_one_pair :
    let t := after .resume (softResetWheel haltedApart)
    t.gw.appliedSplit = .splitLocked ∧ t.gw.lanes.read.slot = 0 ∧ t.gw.lanes.write.slot = 8
      ∧ laneState t .read = .waitingLink ∧ laneState t .write = .waitingLink := by decide +kernel

/-- Two lanes that stand at one pair go on from it. -/
theorem test_resume_keeps_lanes_in_step :
    let s := haltedApart
    let t := after .resume
      { s with gw := { s.gw with appliedSplit := .splitLocked,
                                 lanes := { s.gw.lanes with write := { s.gw.lanes.write with slot := 13 } } } }
    t.gw.lanes.read.slot = 5 ∧ t.gw.lanes.write.slot = 13 := by decide +kernel

/-- A lane held IDLE for a changeover and then STOPPED begins at RESUME, the other lane waiting (assumption 43). -/
theorem test_resume_begins_a_held_lane :
    let s := withGrants [grantR] (live true)
    let t := after .resume
      { s with gw := { s.gw with storedSplit := .shared,
                                 lanes := { s.gw.lanes with read := ⟨.walking, 5, .arrive, true, false, false⟩,
                                                            write := ⟨.stopped, 8, .arrive, false, false, true⟩ } },
               mp := { s.mp with mode := .halted } }
    t.gw.appliedSplit = .splitFree ∧ t.gw.lanes.write = ⟨.walking, 8, .arrive, false, false, false⟩ := by decide +kernel

/-! #### Fields, and enabling around an evaluation pass -/

/-- Fields 1 and 2 of a list entry during a run. -/
theorem witness_ChangeListAppliesItsEntries_refused :
    ready (running 0 ⟨1, 2, 3⟩) ∧ (running 0 ⟨1, 2, 3⟩).clu.run ≠ none
      ∧ (after (.changeListEntryWrite 0 1 9) (running 0 ⟨1, 2, 3⟩)).mp.answer = some ⟨.refusedState, 2⟩
      ∧ (after (.changeListEntryWrite 0 2 9) (running 0 ⟨1, 2, 3⟩)).mp.answer = some ⟨.refusedState, 3⟩ := by
  decide +kernel

/-- A run position, a rescue-list position held and one past the list's end, and field 15h of REQUESTER. -/
theorem witness_ReadFieldAnswersTheFieldAsHeld_more :
    (listUnit .go true none (some 31)).clu.run = some 31 ∧ (listUnit .go true none none).clu.run = none
      ∧ rescuing.mu.rescueList[(0 : Fin 48).val]? = some 0 ∧ rescuing.mu.rescueList.length ≤ (1 : Fin 48).val
      ∧ ¬ ((0x15 : Byte).toNat ≤ 0x14 ∨ (0x20 ≤ (0x15 : Byte).toNat ∧ (0x15 : Byte).toNat ≤ 0x24))
      ∧ (after (.readField 1 0 0x15) (live true)).mp.answer = some ⟨.badTarget, 0⟩ := by decide +kernel

/-- R151: a record that is PENDING stays so when its entry is enabled outside a pass, and is EVALUATED by one during a
pass. -/
theorem test_enable_and_the_closing_record :
    let s := withMeter 20 (fun m => { m with closing := closed 50 true }) (live true)
    (after (.enable 20) s).mu.entries[(20 : EntryIx)].closing = closed 50 true
      ∧ (after (.enable 20) (evaluating 5 s)).mu.entries[(20 : EntryIx)].closing.evaluation = .evaluated := by
  decide +kernel

/-! #### The serial wires, fences, and what arrives for a write that goes no further -/

/-- The port after these bits of a frame, most significant first. -/
def clockedIn (w : BitVec 64) (n : Nat) : SerialPhase :=
  (((List.range 64).map fun k => w.getMsbD k).take n).foldl (fun p b => serialNext (live true) (.mckRises b) p)
    (serialNext (live true) .mselFalls .deselected)

/-- WRITE FIELD, REQUESTER, entry 3, field 0Bh, value 5: its last bit, a 1, is sampled after 63. -/
theorem test_frame_on_the_wires :
    serialCommand (live true) false (.mckRises true) (clockedIn 0x02_01_03_0B_00000005 63) = some (.setBurst 3 5)
      ∧ clockedIn 0x02_01_03_0B_00000005 64 = .working
      ∧ serialCommand (live true) false .mselRises (clockedIn 0x02_01_03_0B_00000005 63) = some .frameAbort := by decide +kernel

/-- CLAMPED is 01h: MDO is low for the first seven bits of the answer and high at the eighth, and undriven once MSEL rises. -/
theorem test_mdo_levels :
    let s := after (.eventMaskWrite 0xFFFFFFFF) (live true)
    let p := fun n : Nat => SerialPhase.answering n
    mdoLevel .working s = some false ∧ mdoLevel (p 0) s = some true ∧ mdoLevel (p 7) s = some false
      ∧ mdoLevel (p 8) s = some true ∧ mdoLevel (serialNext (live true) .mselRises (p 8)) s = none
      ∧ mdoLevel (serialNext (live true) .mckFalls .deselected) s = none := by decide +kernel

theorem witness_LayoutsCarryEveryField_wires :
    ((List.range 64).map fun k => (frameBits ⟨0x02, 1, 3, 0x0B, 5⟩).getMsbD k).getLast? = some true
      ∧ (after (.readStatus true) (live true)).mp.answer = some ⟨.done, 0x70D⟩ ∧ (39 : Nat) < 40
      ∧ (live true).powered = true ∧ frameOf (.inject 48 5) = some ⟨0x30, 0, 48, 0, 5⟩
      ∧ (after (.inject 48 5) (live true)).mp.answer.isSome = true := by decide +kernel

/-- Two held writes that a held read overlaps: it is fenced on the younger. -/
def fencedRead : State :=
  let y : Descriptor := ⟨2, 0, reqTxn .write 7 511, 1, some 1, none⟩
  let r : Reservation := { cellsW 0 .receiving .pending with txn := reqTxn .write 7 511, cells := [1] }
  withQueue [] (.cells 1) (withHeld [heldW, y, { heldR with fence := some 2 }] [cellsW 64 .receiving .pending, r] (live true))

theorem witness_FencesJoinOlderOverlaps_youngest :
    FenceLaw fencedRead ∧ YoungestFenceLaw fencedRead ∧ ¬ YoungestFenceLaw (withHeld [heldW, freeR] [] (live true)) := by
  decide +kernel

/-- R70: as the younger is aborted the read is fenced on the older one. -/
theorem test_a_discard_gives_a_new_target :
    (after .requesterAbort fencedRead).hs.held = [heldW, { heldR with fence := some 0 }] := by decide +kernel

theorem witness_CutWritesAreDiscarded_followers :
    fencedRead.hs.held = [heldW] ++ ⟨2, 0, reqTxn .write 7 511, 1, some 1, none⟩ :: [{ heldR with fence := some 2 }]
      ∧ heldR.entry = 0 ∧ heldWrite fencedRead 1 = some ⟨2, 0, reqTxn .write 7 511, 1, some 1, none⟩ := by decide +kernel

theorem witness_HeadersJoinTheArrivalQueue_overruns :
    (let s := withQueue (List.replicate 7 arrivedRead ++ [openWrite]) .queued (live true)
     s.up.reception = .queued ∧ s.up.queue = List.replicate 7 arrivedRead ++ [openWrite] ∧ 8 ≤ s.up.queue.length)
      ∧ (let s := withQueue (List.replicate 8 arrivedRead) (.cells 0)
           (withHeld [heldW] [cellsW 64 .receiving .pending] (live true))
         s.up.reception = .cells 0 ∧ 8 ≤ s.up.queue.length
           ∧ (after (.upHeaderArrival (reqHeader 1 5 63)) s).mp.events.length = 2) := by decide +kernel

/-- A released write whose transmission is DONE, in this data state, at the reception. -/
def ended (received : Nat) (data : DataState) (t : Transmission) : State :=
  withQueue [] (.cells 0) (withHeld [] [cellsW received data t] (live true))

/-- A write whose 64 beats take every place, before another header. -/
def beatsFull (r : UpReception) : State :=
  withQueue [⟨reqHeader 2 5 4095, List.replicate 64 (List.replicate 64 0), none, false⟩] r
    (withHeld [] [cellsW 64 .receiving .sending] (live true))

theorem witness_BeatsLandInTheirCells_discarded :
    (let s := ended 64 .draining .done
     s.powered = true ∧ s.up.linkUp = true ∧ queuedBeats s.up < 64 ∧ 1 ≤ s.up.dataAdvertised ∧ s.up.reception = .cells 0
       ∧ reservationAt s 0 = some (cellsW 64 .draining .done))
      ∧ (withQueue [] .answered (live true)).up.reception = .answered
      ∧ (withQueue [] .overrun (live true)).up.reception = .overrun ∧ (live true).up.reception = .stray := by
  decide +kernel

theorem witness_BeatsLandInTheirCells_overruns :
    64 ≤ queuedBeats (beatsFull .queued).up ∧ (beatsFull .queued).up.queue.length = 1
      ∧ (beatsFull (.cells 0)).up.reception = .cells 0
      ∧ reservationAt (beatsFull (.cells 0)) 0 = some (cellsW 64 .receiving .sending)
      ∧ (beatsFull .stray).up.linkUp = true ∧ (beatsFull .stray).powered = true := by decide +kernel

abbrev writesLawful (s : State) : Prop := PoolLaw s ∧ WriteLaw s

theorem witness_EndMarkCompletesTheWrite_closes :
    (writesLawful (ended 64 .draining .done) ∧ reservationAt (ended 64 .draining .done) 0 = some (cellsW 64 .draining .done)
        ∧ (after .upEndMark (ended 64 .draining .done)).hs.reservations = [])
      ∧ (writesLawful (ended 64 .draining .pending)
        ∧ (after .requesterAbort (ended 64 .draining .pending)).hs.reservations = [cellsW 64 .closed .pending])
      ∧ (let s := ended 64 .receiving .done
         writesLawful s ∧ reservationAt s 0 = some (cellsW 64 .receiving .done) ∧ heldWrite s 0 = none ∧ s.up.queue.length < 8
           ∧ (after (.upHeaderArrival (reqHeader 1 5 63)) s).hs.reservations = []) := by decide +kernel

theorem witness_CutWritesAreDiscarded_done :
    let s := ended 512 .receiving .done
    reservationAt s 0 = some (cellsW 512 .receiving .done) ∧ heldWrite s 0 = none ∧ queuedBeats s.up < 64
      ∧ 1 ≤ s.up.dataAdvertised ∧ txnLength (reqTxn .write 1 511) < 512 + (List.replicate 1 (0 : Byte)).length := by
  decide +kernel

/-- The forwarded response waits for data credits; and no header credit at all. -/
theorem witness_ResponseArbiterAlternates_credits :
    let s := responding [answered] [memoryRead] none
    let t := { s with up := { s.up with dataCredits := 0 } }
    t.dp.whole = memoryRead :: [] ∧ t.up.dataCredits < memoryRead.beats.length ∧ 1 ≤ t.up.headerCredits
      ∧ t.up.generated = answered :: []
      ∧ ({ t with up := { t.up with headerCredits := 0 } } : State).up.headerCredits = 0 := by decide +kernel

/-- What the clause of queued beats that refuse a write asks, of a write of 512 bytes given cell 0. -/
abbrev refusedWaiting (p : ArrivalPacket) (good : List Beat) (bad : Beat) (more : List Beat) : Prop :=
  let s := offered p .stray [freeR] id
  headReady s p ∧ passesAll s p.header ∧ PoolLaw s ∧ MemoryLaw s ∧ FenceLaw s ∧ WriteLaw s ∧ p.beats = good ++ bad :: more
    ∧ (∀ b ∈ good.dropLast, b.length = 64) ∧ good.flatten.length ≤ txnLength (txnOf p.header) ∧ heldWrite s 0 = none

/-- A ninth beat of a write of 512 bytes, and a beat after a short one. -/
theorem witness_DispositionHoldsTheHead_refused :
    (let good := List.replicate 8 (List.replicate 64 (1 : Byte))
     refusedWaiting (waitingWrite (good ++ [[2], [3]]) (some .endMark)) good [2] [[3]])
      ∧ (let good := [List.replicate 64 (1 : Byte), List.replicate 63 1]
         refusedWaiting (waitingWrite (good ++ [[2]]) none) good [2] [] ∧ good.flatten.length % 64 ≠ 0) :=
  ⟨by decide +kernel, by decide +kernel, by decide +kernel⟩

theorem witness_PassAndInjectEvaluate_no_entry :
    48 ≤ (48 : Byte).toNat ∧ (live true).mp.mode ≠ .halted ∧ (inMode .halted true).mp.mode = .halted := by decide +kernel

theorem witness_EnablingAndDisablingAnEntry_again :
    (47 : EntryIx) ≠ 0 ∧ (live true).rmu.entries[(47 : EntryIx)].enabled = false := by decide +kernel

theorem witness_WriteFieldStoresClampedOrRefuses_codes :
    (171 : Word).toNat = 171 ∧ 1 < (2 : Word).toNat ∧ (live true).rmu.classes.get .prime = ⟨false, 256, .stall⟩
      ∧ (after (.writeField 4 0 4 700) (live true)).mp.answer = some ⟨.clamped, 512⟩
      ∧ (after (.writeField 1 1 5 16) (live true)).mp.answer = some ⟨.clamped, 15⟩ := by decide +kernel

/-- A run at its last position, and none; a rescue list of 48, whose last position stands, and one of none, whose first
does not; a code past the last source. -/
theorem witness_WriteFieldStoresClampedOrRefuses_runtime :
    (let s := listUnit .go true none (some 31)
     ready s ∧ s.clu.run = some 31)
      ∧ (live true).clu.run = none
      ∧ (let s := { live true with mu := { (live true).mu with rescueList := List.finRange 48 } }
         ready s ∧ s.mu.rescueList[(47 : Fin 48).val]? = some (47 : EntryIx))
      ∧ (live true).mu.rescueList.length ≤ (0 : Fin 48).val
      ∧ (let s := listUnit .countdown true (some 5) none
         ready s ∧ 3 < (4 : Word).toNat) := by decide +kernel

/-- Section 11.2, R177, R186: the run position and a rescue-list position stand against a write, and so do the source and
a running countdown against the code 4. -/
theorem test_write_refused_with_the_field_as_it_stands :
    (after (.writeField 5 32 0x10 7) (listUnit .go true none (some 31))).mp.answer = some ⟨.badTarget, 31⟩
      ∧ (after (.writeField 6 48 0x10 7) { live true with mu := { (live true).mu with rescueList := [20] } }).mp.answer
          = some ⟨.badTarget, 20⟩
      ∧ (let t := after (.triggerSourceWrite 4) (listUnit .countdown true (some 5) none)
         t.mp.answer = some ⟨.badTarget, 2⟩ ∧ t.clu.countdown = some 5) := by decide +kernel

/-- The upstream link is down: an entry that can be disabled, a packet in its wait, a timer, a downstream link that is
up; the flights are orphans, or, in a state that no run reaches, are not. -/
def cutOff (s : State) : State := { s with up := { s.up with linkUp := false } }

theorem witness_EnablingAndDisablingAnEntry_upstream_down :
    let s := cutOff (withEntry 47 (fun c => { c with enabled := true }) (live true))
    ready s ∧ (47 : EntryIx) ≠ 0 ∧ s.rmu.entries[(47 : EntryIx)].enabled = true ∧ s.up.linkUp = false := by decide +kernel

theorem witness_UnderrunsAndTimeoutsEndTheFlight_upstream_down :
    (let s := cutOff (withFlight [flying .write 1 .sending none true] (sendingAt 1 64 .receiving true))
     let p : Sending := ⟨reqTxn .write 1 511, 0, 0, 1, true⟩
     s.powered = true ∧ s.up.linkUp = false ∧ s.dp.sending = some p ∧ nextUnitReady s p = false
       ∧ reservationAt s 0 = some (cellsW 64 .receiving .sending)
       ∧ flightOf s 0x0300 1 = some (flying .write 1 .sending none true))
      ∧ (let s := cutOff (withFlight [flying .read 4 .awaiting (some 200) true] (live true))
         s.powered = true ∧ s.up.linkUp = false
           ∧ flightOf s 0x0300 4 = some (flying .read 4 .awaiting (some 200) true)) := by decide +kernel

theorem witness_DownLinkDownAndUp_upstream_down :
    let s := cutOff (withFlight [flying .read 4 .awaiting (some 200) false] (live true))
    s.powered = true ∧ s.dp.linkUp = true ∧ s.up.linkUp = false
      ∧ (after .downLinkDown s).up.generated = [] ∧ (after .downLinkDown s).fu.table = [] := by decide +kernel

/-! #### What releases, holds, frees and searches bring with them -/

/-- A held write of this entry with this first cell and its reservation, so many bytes received. -/
def heldWriteOf (e : EntryIx) (k : Nat) (received : Nat) : Descriptor × Reservation :=
  (⟨k, e, reqTxn .write (BitVec.ofNat 10 (k + 1)) 511, 0, some k, none⟩,
    { cellsW received .receiving .pending with txn := reqTxn .write (BitVec.ofNat 10 (k + 1)) 511, entry := e, cells := [k] })

/-- Two writes of entry 0 and one of entry 2, each at its class's start mark; the lanes stand in this phase at BULK
slots, with these entries on the rescue list. -/
def searched (split : LaneSplit) (phase : VisitPhase) (rescue : List EntryIx) : State :=
  let ws := [heldWriteOf 0 0 256, heldWriteOf 0 1 256, heldWriteOf 2 2 256]
  let s := withEntry 2 (fun c => { c with enabled := true }) (withHeld (ws.map (·.1)) (ws.map (·.2)) (live true))
  let lane : Lane := { motion := .walking, slot := 11, phase := phase, released := false, woken := false, held := false }
  { withQueue [] (.cells 0) s with
    rmu := { s.rmu with classes := { s.rmu.classes with bulk := ⟨true, 256, .stall⟩ } },
    mu := { s.mu with rescueList := rescue },
    gw := { s.gw with storedSplit := split, appliedSplit := split,
                      lanes := { s.gw.lanes with read := { lane with slot := 3 }, write := lane, shared := lane } } }

def firstW : Descriptor := (heldWriteOf 0 0 256).1
def nextW : Descriptor := (heldWriteOf 0 1 256).1
def otherW : Descriptor := (heldWriteOf 2 2 256).1

/-- R91: where the write lane's next visit would name the first write, and where a search stands after it; the last of
the class's order, entry 0, is followed by none. -/
theorem witness_SearchesServeInOrder_gone :
    (let s := searched .splitFree .arrive [0, 2]
     LaneName.write ∈ wheelLanes s ∧ laneState s .write = .walking ∧ s.mp.mode ≠ .halted ∧ s.dp.linkUp = true
       ∧ scanFinds s .write (slotSearch s .write .bulk) firstW
       ∧ placeAfter s .write (slotSearch s .write .bulk) firstW
         = some { slotSearch s .write .bulk with rescue := [2] }
       ∧ (nameGone firstW s).freeUsed = s.freeUsed + 1)
      ∧ (let s := searched .splitLocked (.visiting .bulk) [2, 0]
         scanFinds s .write (slotSearch s .write .bulk) otherW ∧ nameGone firstW s = s)
      ∧ (let s := searched .splitLocked .arrive []
         classFinds s .write (slotSearch s .write .bulk) otherW ∧ pairEnabled s = true
           ∧ placeAfter s .write (slotSearch s .write .bulk) otherW
             = some ⟨.bulk, [], (searchOrder 2).take 46⟩)
      ∧ (let s := searched .shared (.searching ⟨.bulk, [], [5, 0, 2]⟩) [0]
         laneState s .shared = .walking ∧ searchPlace s .shared = some ⟨.bulk, [], [5, 0, 2]⟩) := by decide +kernel

/-- R91: after the first write's abort a search that had named it goes on with entry 2, and never with the next write of
entry 0; one that had not serves that write. -/
theorem test_a_search_goes_on_after_the_head_that_is_gone :
    let s := discardOne firstW (searched .splitFree .arrive [0, 2])
    (after (.slotVisit .write) (standAt .write ⟨.bulk, [2], searchOrder 0⟩ s)).gw.grants.map (·.entry) = [2]
      ∧ (after (.slotVisit .write) s).gw.grants.map (·.txn)
        = [nextW.txn] := by decide +kernel

/-- R91: under SPLIT_LOCKED the partner has come to its slot too. -/
theorem test_a_pair_has_arrived_where_a_search_stands :
    let s := standAt .write ⟨.bulk, [], [2]⟩ (searched .splitLocked .arrive [])
    (s.gw.lanes.read.phase, s.gw.lanes.write.phase) = (.visiting .bulk, .searching ⟨.bulk, [], [2]⟩) := by decide +kernel

theorem witness_SlotVisitsReleaseOneHead_searching :
    (let s := searched .splitFree (.searching ⟨.bulk, [2], []⟩) []
     lanesWalk s .write ∧ s.gw.appliedSplit ≠ .splitLocked ∧ scanFinds s .write ⟨.bulk, [2], []⟩ otherW)
      ∧ (let s := searched .splitFree (.searching ⟨.bulk, [], [2, 0]⟩) []
         lanesWalk s .write ∧ classFinds s .write ⟨.bulk, [], [2, 0]⟩ otherW)
      ∧ (let s := searched .splitFree (.searching ⟨.prime, [], [2, 0]⟩) []
         lanesWalk s .write ∧ findsNone s .write ⟨.prime, [], [2, 0]⟩ ∧ (11 : Fin 16) ≠ lastSlot .write) := by
  decide +kernel

theorem witness_LockedVisitsServeTheClassRead_searching :
    (let s := searched .splitLocked (.searching ⟨.bulk, [2], []⟩) []
     lanesWalk s .write ∧ s.gw.appliedSplit = .splitLocked ∧ scanFinds s .write ⟨.bulk, [2], []⟩ otherW)
      ∧ (let s := searched .splitLocked (.searching ⟨.bulk, [], []⟩) []
         lanesWalk s .write ∧ findsNone s .write ⟨.bulk, [], []⟩)
      ∧ (let s := searched .splitLocked (.searching ⟨.bulk, [], [0]⟩) []
         lanesWalk s .write ∧ classFinds s .write ⟨.bulk, [], [0]⟩ firstW) := by decide +kernel

/-- The round ends after a search at the last slot that finds nothing more. -/
theorem witness_RoundsEndAndPairsStep_searching :
    let s := searched .splitFree (.searching ⟨.bulk, [], []⟩) []
    let t := setLane .write (fun x => { x with slot := 15 }) s
    lanesWalk t .write ∧ settingsSame t ∧ (t.gw.lanes.get .write).slot = lastSlot .write
      ∧ findsNone t .write ⟨.bulk, [], []⟩ := by decide +kernel

theorem witness_CutWritesAreDiscarded_searched :
    let s := searched .splitFree .arrive [0, 2]
    arriving s ((heldWriteOf 0 0 256).2) ∧ heldWrite s 0 = some firstW ∧ FenceLaw s ∧ (256 : Nat) ≠ 512 := by decide +kernel

/-- R61: a released write that is kept as the upstream link goes down beside a held one. -/
theorem witness_UpLinkDownDiscardsHeldWork_kept :
    let r := { cellsW 64 .complete .sending with cells := [1] }
    let t := withHeld [heldW] [cellsW 64 .receiving .pending, r] (live true)
    let s := { t with dp := { t.dp with sending := some ⟨reqTxn .write 1 511, 0, 1, 1, false⟩ } }
    writesLawful s ∧ s.powered = true ∧ s.up.linkUp = true ∧ heldW.cells ≠ some 1
      ∧ reservationAt (after .upLinkDown s) 1 = some r ∧ reservationAt (after .upLinkDown s) 0 = none := by decide +kernel

/-- R48, R51, R59: pressure is ON and a head is stalled as a packet's end frees the last reserved cell. -/
def pressured (s : State) : State :=
  { s with mp := { s.mp with eventMask := maskBits },
           hs := { s.hs with pressureOn := true, cellLow := 255, cellHigh := 256, descriptorLow := 0, descriptorHigh := 0,
                             stalled := true } }

theorem test_freed_cells_end_the_pressure :
    (let t := after .dpUnitSend (pressured (sendingAt 8 512 .complete false))
     (t.hs.pressureOn, t.hs.retryDue, t.mp.events.map (·.kind)) = (false, true, [.poolPressureOff]))
      ∧ (let t := after .packetBegin (pressured (granted (grantW true) [cellsW 64 .closed .pending]))
         (t.hs.pressureOn, t.hs.retryDue) = (false, true))
      ∧ (let t := after .downLinkDown (pressured (sendingAt 8 512 .complete false))
         (t.hs.pressureOn, t.hs.retryDue, t.mp.events.map (·.kind))
           = (false, true, [.downLinkDown, .poolPressureOff])) := by decide +kernel

/-- R134: a landed beat ends the underrun wait of its own write, and of no other. -/
theorem test_a_beat_ends_the_wait_of_its_own_write :
    let s := withQueue [] (.cells 0) (sendingAt 1 64 .receiving true)
    let other := { cellsW 64 .receiving .pending with cells := [1] }
    let t := withQueue [] (.cells 1) { s with hs := { s.hs with reservations := s.hs.reservations ++ [other] } }
    let b := List.replicate 64 (7 : Byte)
    ((after (.upBeatArrival b) s).dp.sending.map (·.waiting), (after (.upBeatArrival b) t).dp.sending.map (·.waiting))
      = (some false, some true) := by decide +kernel

theorem witness_AlertFollowsTheEventQueue_low :
    (after .powerOnResetAsserted fullQueue).powered = false
      ∧ (after .powerOnResetAsserted fullQueue).mp.events ≠ [] := by decide +kernel

/-! ### The acts of a soft reset, one by one (R172, R173) -/

/-- With the power-on mask and no run under way no act of a block touches the Management Port or begins a run. -/
theorem blockAct_port (b : ResetBlock) {s : State} (hm : s.mp.eventMask = 0x1F3E1E) (hr : s.clu.run = none) :
    (blockAct b s).mp = s.mp ∧ (blockAct b s).clu.run = none := by
  have on : s.mp.eventMask.getLsbD (eventCode .poolPressureOn) = false := by rw [hm]; decide
  have off : s.mp.eventMask.getLsbD (eventCode .poolPressureOff) = false := by rw [hm]; decide
  cases b with
  | hold => simp [blockAct, softResetHold, discardAll_masked, on, off, hr]
  | wheel => simp [blockAct, hr]
  | credit => simp [blockAct, hr]
  | flight => simp [blockAct, hr]
  | meter => simp [blockAct, hr]
  | list => simp [blockAct, softResetList, landFromRun, State.onClu, hr]

theorem takeActs_port (n : Nat) {s : State} (hm : s.mp.eventMask = 0x1F3E1E) (hr : s.clu.run = none) :
    (takeActs n s).mp = { s.mp with resetsDue := (takeActs n s).mp.resetsDue } ∧ (takeActs n s).clu.run = none := by
  induction n generalizing s with
  | zero => exact ⟨rfl, hr⟩
  | succ n ih =>
    have one : (takeAct s).mp = { s.mp with resetsDue := (takeAct s).mp.resetsDue } ∧ (takeAct s).clu.run = none := by
      rcases takeAct_cases s with ⟨-, k⟩ | ⟨b, -, k⟩ <;> rw [k]
      · exact ⟨rfl, hr⟩
      · obtain ⟨h, h'⟩ := blockAct_port b
          (s := { s with freeUsed := s.freeUsed + 1, mp := { s.mp with resetsDue := s.mp.resetsDue.erase b } }) hm hr
        exact ⟨by rw [h], h'⟩
    obtain ⟨h, h'⟩ := ih (s := takeAct s) (by rw [one.1]; exact hm) one.2
    refine ⟨?_, h'⟩
    rw [takeActs, h, one.1]

theorem someActs_port {s : State} (hm : s.mp.eventMask = 0x1F3E1E) (hr : s.clu.run = none) :
    (someActs s).mp = { s.mp with resetsDue := (someActs s).mp.resetsDue } ∧ (someActs s).clu.run = none :=
  takeActs_port _ (s := { s with freeUsed := s.freeUsed + 1 }) hm hr

/-- R192: under the power-on mask a soft reset with no run under way leaves the event queue empty. -/
theorem test_soft_reset_empties_the_queue {s : State} (hm : s.mp.eventMask = 0x1F3E1E)
    (hr : s.clu.run = none) : (softReset false s).mp.events = [] := by
  have first := someActs_port (s := handReset s) hm hr
  have last := someActs_port (s := softResetPort (someActs (handReset s)))
    (by simp only [softResetPort, State.onMp]; rw [first.1]; exact hm) first.2
  change (someActs (softResetPort (someActs (handReset s)))).mp.events = []
  rw [last.1]
  rfl

theorem witness_AlertFollowsTheEventQueue_softReset :
    ∃ t, exec (.softReset false) (live true) = .next t ∧ (live true).powered = true ∧ t.mp.events = [] :=
  ⟨softReset false (live true), framed_settled (by decide +kernel) (by decide +kernel), by decide +kernel,
    test_soft_reset_empties_the_queue (by decide +kernel) (by decide +kernel)⟩

/-- One act is due. -/
def dueOnly (b : ResetBlock) (s : State) : State := { s with mp := { s.mp with resetsDue := [b] } }

/-- R173: a release taken before the Hold Store's act is kept by the Flight Table; taken after it, it finds nothing, and
the transaction has been answered DEFER. -/
theorem test_a_release_and_the_hold_act :
    (let t := takeAct (after (.slotVisit .write) (dueOnly .hold (walkingAt 11 oneWrite)))
     (t.fu.table.length, t.gw.grants.length, t.up.generated.length) = (1, 1, 0))
      ∧ (let t := takeAct (dueOnly .hold (withHeld [heldW] [cellsW 512 .complete .pending] (idle .splitFree .paced)))
         (t.fu.table.length, t.hs.held.length, t.up.generated.map (·.statusCode)) = (0, 0, [8])) := by
  constructor <;> dsimp only <;> rw [takeAct_one (b := .hold) (by decide +kernel)] <;> decide +kernel

/-- R173: a charge taken before the Credit Engine's act is overwritten with B. -/
theorem test_a_charge_and_the_credit_act :
    (after (.slotVisit .write) (dueOnly .credit (walkingAt 11 oneWrite))).ce.records[(0 : EntryIx)].balance = 15840
      ∧ (takeAct (after (.slotVisit .write) (dueOnly .credit (walkingAt 11 oneWrite)))).ce.records[(0 : EntryIx)].balance
        = 16384 := by
  refine ⟨by decide +kernel, ?_⟩
  rw [takeAct_one (b := .credit) (by decide +kernel)]
  decide +kernel

/-- R184: a frame finds every act taken: with the Credit Engine's act due, a read of the balance answers B. -/
theorem test_a_frame_after_the_acts :
    (let s := dueOnly .credit (after (.slotVisit .write) (walkingAt 11 oneWrite))
     (framed id s, s.ce.records[(0 : EntryIx)].balance) = (.next (takeAct s), 15840)) := by
  have h : (dueOnly .credit (after (.slotVisit .write) (walkingAt 11 oneWrite))).powered = true := by decide +kernel
  dsimp only
  rw [framed_on h]
  exact Prod.ext rfl (by decide +kernel)

/-- R184: the answer of a SOFT RESET is not ready while an act of it is due. -/
theorem test_answer_waits_for_the_acts :
    serialNext (dueOnly .meter (live true)) .answerReady .working = .working
      ∧ serialNext (live true) .answerReady .working = .answering 0 := by decide +kernel

theorem witness_LayoutsCarryEveryField_due :
    (live true).powered = true ∧ Settled (live true) ∧ (dueOnly .meter (live true)).powered = true
      ∧ ¬ Settled (dueOnly .meter (live true)) ∧ (live false).powered = true
      ∧ (after .powerOnResetAsserted (live true)).powered = false := by decide +kernel

theorem witness_SoftResetKeepsModeAndConfiguration :
    ready busy
      ∧ (∀ b : ResetBlock, (dueOnly b busy).powered = true ∧ ¬ Settled (dueOnly b busy) ∧ b ∈ (dueOnly b busy).mp.resetsDue)
      ∧ (dueOnly .hold busy).pending = []
      ∧ (∃ f, frameOf .clearCounters = some f) ∧ (∀ pin, Instr.clearCounters ≠ .softReset pin)
      ∧ frameOf .upEndMark = none ∧ Instr.upEndMark ≠ .powerOnReset true
      ∧ PoolLaw (dueOnly .hold busy) ∧ heldW ∈ busy.hs.held ∧ heldW.cells = some 0
      ∧ reservationAt busy 0 = some (cellsW 64 .receiving .pending) ∧ (∀ d ∈ busy.hs.held, d.cells ≠ some 1)
      ∧ busy.clu.run = none ∧ (running 5 ⟨4, 0, 100⟩).clu.run = some 5 ∧ listKindOf 4 = some .setBurst
      ∧ (let s := withHeld [heldW] [cellsW 512 .complete .pending] (live true)
         PoolLaw s ∧ reservationAt s 0 = some (cellsW 512 .complete .pending)) :=
  ⟨by decide +kernel, fun b => ⟨by cases b <;> decide +kernel, by cases b <;> decide +kernel, by simp [dueOnly]⟩,
    by decide +kernel, ⟨_, rfl⟩, fun _ => by simp, rfl, by simp, by decide +kernel⟩

/-! ### Witnesses and values: what becomes of the lanes (R77, R78, R81, R97, R98) -/

/-- The write lane's granted release is ready and the lane stands so; the other lanes are at rest. -/
def holdsAt (lane : Lane) (split : LaneSplit) (f : GrantWheel → GrantWheel) : State :=
  let s := withGrants [grantW false] (withHeld [] [cellsW 64 .receiving .pending] (idle split .continuous))
  { s with gw := f { s.gw with lanes := { s.gw.lanes with write := lane } } }

abbrev chosen (s : State) : Prop := s.powered = true ∧ PoolLaw s ∧ chooseGrant s = some (grantW false)

/-- The lane in its round at this slot, its visit there done. -/
def walks (slot : Fin 16) : Lane := ⟨.walking, slot, .done, true, false, false⟩

theorem witness_PacketsBeginWithTheirHeader_lanes :
    (let s := holdsAt (walks 8) .shared id
     chosen s ∧ LaneName.write ∉ lanesActive s)
      ∧ (let s := holdsAt (walks 15) .splitFree id
         chosen s ∧ ¬ Differ s ∧ LaneName.write ∈ lanesActive s ∧ (15 : Fin 16) = lastSlot .write) := by decide +kernel

theorem witness_PacketsBeginWithTheirHeader_halted :
    let s := holdsAt (walks 15) .splitFree id
    let h := { s with mp := { s.mp with mode := .halted, remembered := .regulate } }
    chosen h ∧ LaneName.write ∈ lanesActive h := by decide +kernel

theorem witness_PacketsBeginWithTheirHeader_moves :
    chosen (holdsAt (walks 9) .splitFree id) ∧ (9 : Fin 16) ≠ lastSlot .write
      ∧ chosen (holdsAt ⟨.idle, 8, .arrive, false, false, false⟩ .splitFree id)
      ∧ chosen (holdsAt (walks 9) .splitLocked id) := by decide +kernel

/-- The write lane has ended its round. -/
def endedRound (s : State) : State :=
  { s with gw := { s.gw with grants := [], lanes := s.gw.lanes.set .write { walks 15 with motion := .idle, held := true } } }

theorem witness_PacketsBeginWithTheirHeader_changeover :
    (let s := holdsAt (walks 15) .splitFree fun g =>
       { g with storedPacing := .paced, lanes := { g.lanes with read := ⟨.walking, 0, .arrive, false, false, false⟩ } }
     chosen s ∧ Differ s ∧ ¬ ChangeoverDue (endedRound s))
      ∧ (let s := holdsAt (walks 15) .splitFree fun g => { g with storedPacing := .paced }
         chosen s ∧ Differ s ∧ ChangeoverDue (endedRound s))
      ∧ (let g : Grant := ⟨.drain, 0, reqTxn .read 3 63, none, false⟩
         let s := withGrants [g] (live false)
         s.powered = true ∧ PoolLaw s ∧ chooseGrant s = some g ∧ .drain ∈ lanesActive s ∧ s.mp.mode ≠ .halted) := by
  decide +kernel

/-- R81, R82: the release of a lane at its last slot begins, and in CONTINUOUS the lane begins its next round; at another
slot it moves on; under SPLIT_LOCKED it waits for its partner there. -/
theorem test_packet_begin_moves_the_lane :
    (after .packetBegin (holdsAt (walks 15) .splitFree id)).gw.lanes.write = ⟨.walking, 8, .arrive, false, false, false⟩
      ∧ (after .packetBegin (holdsAt (walks 9) .splitFree id)).gw.lanes.write = ⟨.walking, 10, .arrive, true, false, false⟩
      ∧ (after .packetBegin (holdsAt (walks 9) .splitLocked id)).gw.lanes.write = walks 9 := by decide +kernel

/-- The lanes of HALTED, or of a link that is down: STOPPED, with these settings stored. -/
def stoppedLanes (split : LaneSplit) (mode : Mode) (link : Bool) : State :=
  let s := live true
  { s with mp := { s.mp with mode := mode, remembered := .regulate }, dp := { s.dp with linkUp := link },
           gw := { s.gw with storedSplit := split,
                             lanes := { s.gw.lanes with read := ⟨.stopped, 3, .arrive, false, false, false⟩,
                                                        write := ⟨.stopped, 9, .arrive, false, false, false⟩ } } }

theorem witness_DownLinkDownAndUp_lanes :
    (let s := stoppedLanes .shared .regulate false
     s.powered = true ∧ s.dp.linkUp = false ∧ ChangeoverDue s)
      ∧ (let s := stoppedLanes .splitFree .regulate false
         ¬ ChangeoverDue s ∧ .read ∈ lanesActive s ∧ (s.gw.lanes.get .read).motion = .stopped ∧ s.mp.mode ≠ .halted)
      ∧ (stoppedLanes .splitFree .halted false).mp.mode = .halted := by decide +kernel

/-- R97, R98: the lanes begin at their first slots, under the settings that were stored meanwhile. -/
theorem test_lanes_begin_at_their_first_slots :
    (let t := after .downLinkUp (stoppedLanes .splitFree .regulate false)
     (t.gw.lanes.read, t.gw.lanes.write) = (begunLane .read false, begunLane .write false))
      ∧ (let t := after .resume (stoppedLanes .shared .halted true)
         (t.gw.appliedSplit, t.gw.lanes.shared, t.gw.lanes.read.motion) = (.shared, begunLane .shared false, .idle)) := by
  decide +kernel

theorem witness_ModeCommandsChangeTheMode_lanes :
    (let s := stoppedLanes .shared .halted true
     ready s ∧ s.mp.mode = .halted ∧ s.dp.linkUp = true ∧ ChangeoverDue s)
      ∧ (let s := haltedApart
         let l := { s with gw := { s.gw with storedSplit := .splitLocked, appliedSplit := .splitLocked } }
         ready l ∧ l.mp.mode = .halted ∧ .read ∈ wheelLanes l ∧ (l.gw.lanes.get .read).motion = .walking
           ∧ (l.gw.lanes.get .write).slot.val ≠ (l.gw.lanes.get .read).slot.val + 8)
      ∧ (let s := withGrants [grantW false] (stoppedLanes .splitFree .halted true)
         let l := { s with gw := { s.gw with lanes := { s.gw.lanes with write := ⟨.idle, 8, .arrive, false, false, false⟩ } } }
         ready l ∧ .write ∈ wheelLanes l ∧ (grantOf l .write).isSome = true ∧ (l.gw.lanes.get .write).motion = .idle
           ∧ ¬ ChangeoverDue l) := by decide +kernel

/-- The state with this split stored. -/
def storing (x : LaneSplit) (s : State) : State := { s with gw := { s.gw with storedSplit := x } }

theorem witness_WheelSettingsWaitForTheRound_due :
    ready (idle .splitFree .continuous) ∧ ChangeoverDue (storing .shared (idle .splitFree .continuous))
      ∧ ¬ ChangeoverDue (storing .splitFree (idle .splitFree .continuous)) ∧ ¬ ChangeoverDue (storing .shared (live true)) := by
  decide +kernel

/-- R77: a split written between rounds is applied with the stored pacing, and the SHARED lane begins. -/
theorem test_split_written_between_rounds :
    let s := idle .splitFree .continuous
    let t := after (.wheelSettingWrite .split 0) s
    (t.gw.appliedSplit, t.gw.lanes.shared, t.gw.lanes.read.motion) = (.shared, begunLane .shared false, .idle)
      ∧ (after (.wheelSettingWrite .split 2) s).gw = s.gw := by decide +kernel

/-! ### Further witnesses -/

theorem witness_WindowsCountAndClose_sources :
    (let s := paceOut (source .pace (window 2 none))
     s.powered = true ∧ s.mp.paceDirection = .output ∧ s.ce.pass = none ∧ s.mu.heldClose = none)
      ∧ (let s := source .pace (window 2 none)
         s.mp.paceDirection = .input ∧ s.ce.epochSource = .pace ∧ s.ce.pass = none)
      ∧ (let s := source .pace (window 2 (some 5))
         let t := { s with mu := { s.mu with heldClose := some 254 } }
         t.mu.heldClose = some 254 ∧ t.ce.pass = none) := by decide +kernel

/-- R103, R145: an edge of PACE that is taken as an epoch expiry closes a full window too. -/
theorem test_a_pace_edge_closes_the_window :
    (after .paceEdge (source .pace (window 2 none))).mu.pass = some 0
      ∧ (after .epochTimerExpiry (paceOut (source .pace (window 2 none)))).mu.pass = some 0 := by decide +kernel

theorem witness_PassAndInjectEvaluate_held_close :
    let s := evaluating 21 (metered .normal 119 true 0 .unknown)
    let t := { s with mu := { s.mu with heldClose := some 255 } }
    t.powered = true ∧ t.mu.pass = some 21 ∧ t.mu.heldClose = some 255
      ∧ (∀ x : EntryIx, 21 ≤ x.val → t.rmu.entries[x].enabled = true → t.mu.entries[x].closing.evaluation = .evaluated)
      ∧ (after .entryEvaluation t).mu.pass = some 0 ∧ (after .entryEvaluation t).mu.windowCount = 255 := by decide +kernel

/-- R39: the free cells are given out in increasing order, the lowest first. -/
theorem test_lowest_free_cells :
    lowestFreeCells (withHeld [] [{ cellsW 64 .receiving .pending with cells := [0, 2] }] (live true)).hs 3 = [1, 3, 4]
      ∧ (lowestFreeCells (live true).hs 300).length = 256 := by decide +kernel

/-- R4, section 1.2: the LINK answer to a write has kind Ah, status Dh and the request's own fields. -/
theorem test_answer_layout :
    headerBits (answerTxn (reqTxn .write 1 511) .link) = 0xAD0300000101FF000000000000000000#128
      ∧ headerBits (answerHeader (reqHeader 3 1 511) .protocol) = 0xAA0300000101FF000000000000000000#128 := by decide

/-- R122: the lending accumulator is 0 after power-on reset, and a link reset discards it. -/
theorem test_accumulator_reset :
    State.reset.ce.accumulator = 0 ∧ (after .upLinkDown (passing 20 (live true))).ce.accumulator = 0 := by decide +kernel

theorem witness_EndMarkCompletesTheWrite_pressed :
    let s := pressured (withQueue [] (.cells 0) (withHeld [] [cellsW 64 .draining .done] (live true)))
    PoolLaw s ∧ WriteLaw s ∧ (after .upEndMark s).hs.pressureOn = false ∧ (after .upEndMark s).hs.retryDue = true := by
  decide +kernel

/-- R184: a fall of PORn ends a frame under way (assumption 30). -/
theorem test_porn_fall_ends_a_frame :
    serialNext (live true) .pornFalls (clockedIn 0 20) = .deselected
      ∧ serialNext (live true) (.mckRises true) (serialNext (live true) .pornFalls (clockedIn 0 20)) = .deselected := by decide

end Sys2Proof.Tests
end

/-! SUPPORT. R26: what a key and mask claim, bit by bit, and the two ways the RMU's search can end. -/

namespace Sys2Proof.Machine

/-- R26: the id agrees with the key on every bit where the mask is 1. -/
theorem claims_iff (c : EntryConfig) (rid : ReqId) :
    claims c rid = true ↔ ∀ i < 16, c.mask.getLsbD i = true → rid.getLsbD i = c.key.getLsbD i := by
  have bit_clear (i : Nat) : ((rid ^^^ c.key) &&& c.mask).getLsbD i = false ↔
      (c.mask.getLsbD i = true → rid.getLsbD i = c.key.getLsbD i) := by
    rw [BitVec.getLsbD_and, BitVec.getLsbD_xor, Bool.and_eq_false_iff, bne_eq_false_iff_eq, or_comm,
      ← Bool.not_eq_true, imp_iff_not_or]
  have zero_bit (i : Nat) : (0 : ReqId).getLsbD i = false := BitVec.getLsbD_zero
  simp only [claims, beq_iff_eq, BitVec.eq_of_getLsbD_eq_iff, zero_bit, bit_clear]

/-- R26: what the RMU's search looks for, an enabled entry of 1 to 47 that claims the id. -/
def isMatchCandidate (s : State) (rid : ReqId) (e : EntryIx) : Bool :=
  e.val != 0 && s.rmu.entries[e].enabled && claims s.rmu.entries[e] rid

theorem isMatchCandidate_iff {s : State} {rid : ReqId} {e : EntryIx} :
    isMatchCandidate s rid e = true ↔ e ≠ 0 ∧ s.rmu.entries[e].enabled = true
      ∧ ∀ i < 16, s.rmu.entries[e].mask.getLsbD i = true → rid.getLsbD i = s.rmu.entries[e].key.getLsbD i := by
  simp only [isMatchCandidate, Bool.and_eq_true, bne_iff_ne, claims_iff, and_assoc, ne_eq, Fin.ext_iff, Fin.val_zero]

/-- The search over the list of entries is the library's search over `Fin 48`. -/
theorem matchEntry_eq_find (s : State) (rid : ReqId) :
    matchEntry s rid = (Fin.find? (isMatchCandidate s rid)).getD 0 := by
  rw [Fin.find?_eq_find?_finRange]; rfl

/-- The search ends at the first candidate, or at entry 0 with no candidate at all. -/
theorem matchEntry_cases (s : State) (rid : ReqId) :
    (isMatchCandidate s rid (matchEntry s rid) = true ∧ ∀ e < matchEntry s rid, ¬ isMatchCandidate s rid e = true)
      ∨ (matchEntry s rid = 0 ∧ ∀ e, ¬ isMatchCandidate s rid e = true) := by
  rw [matchEntry_eq_find]
  cases found : Fin.find? (isMatchCandidate s rid) with
  | none => exact .inr ⟨rfl, by simpa using found⟩
  | some m =>
    obtain ⟨hit, earlier⟩ := Fin.find?_eq_some_iff.mp found
    exact .inl ⟨hit, by simpa using earlier⟩

/-- Settles O19: the two ends of the search are told apart by entry 0, which is no candidate. -/
theorem requesterIdMatchesOneEntry : Obligations.RequesterIdMatchesOneEntry := by
  intro s rid
  simp only [← isMatchCandidate_iff]
  obtain ⟨hit, earlier⟩ | ⟨missed, all_fail⟩ := matchEntry_cases s rid
  · have nonzero : matchEntry s rid ≠ 0 := (isMatchCandidate_iff.mp hit).1
    exact ⟨fun _ => ⟨hit, earlier⟩, fun zero => absurd zero nonzero⟩
  · exact ⟨fun nonzero => absurd missed nonzero, fun _ => all_fail⟩

end Sys2Proof.Machine

/-! SUPPORT. R38: what leaves the arrival counter alone: one lemma per operation that touches the Hold Store; the others
leave the whole of it. -/

namespace Sys2Proof.Machine

/-! ### The Hold Store's own operations -/

@[simp] theorem evaluatePressure_arrivalCounter (s : State) :
    (evaluatePressure s).hs.arrivalCounter = s.hs.arrivalCounter := by
  unfold evaluatePressure; dsimp only; (repeat' split) <;> simp

@[simp] theorem noteFreed_arrivalCounter (s : State) : (noteFreed s).hs.arrivalCounter = s.hs.arrivalCounter := by
  unfold noteFreed; split <;> simp

@[simp] theorem afterFreeing_arrivalCounter (s : State) :
    (afterFreeing s).hs.arrivalCounter = s.hs.arrivalCounter := by simp [afterFreeing]

@[simp] theorem discardOne_arrivalCounter (d : Descriptor) (s : State) :
    (discardOne d s).hs.arrivalCounter = s.hs.arrivalCounter := by simp [discardOne]

@[simp] theorem setReservation_arrivalCounter (c : Nat) (f : Reservation → Reservation) (s : State) :
    (setReservation c f s).hs.arrivalCounter = s.hs.arrivalCounter := rfl

@[simp] theorem setData_arrivalCounter (c : Nat) (d : DataState) (s : State) :
    (setData c d s).hs.arrivalCounter = s.hs.arrivalCounter := by simp [setData]

@[simp] theorem setTransmission_arrivalCounter (c : Nat) (x : Transmission) (s : State) :
    (setTransmission c x s).hs.arrivalCounter = s.hs.arrivalCounter := rfl

@[simp] theorem reclaim_arrivalCounter (c : Nat) (s : State) :
    (reclaim c s).hs.arrivalCounter = s.hs.arrivalCounter := rfl

@[simp] theorem freeCellsIfFinished_arrivalCounter (c : Nat) (s : State) :
    (freeCellsIfFinished c s).hs.arrivalCounter = s.hs.arrivalCounter := by
  unfold freeCellsIfFinished; (repeat' split) <;> simp

@[simp] theorem discardAll_arrivalCounter (p : Descriptor → Bool) (f : Reservation → Reservation) (s : State) :
    (discardAll p f s).hs.arrivalCounter = s.hs.arrivalCounter := by
  unfold discardAll; dsimp only; split <;> simp [settleReservations]

@[simp] theorem writeMark_arrivalCounter (m : PressureMark) (v : Nat) (s : State) :
    (writeMark m v s).hs.arrivalCounter = s.hs.arrivalCounter := by cases m <;> simp [writeMark]

/-! ### What comes from upstream -/

@[simp] theorem discardHeldWrite_arrivalCounter (x : Descriptor) (c : Nat) (d : DataState) (s : State) :
    (discardHeldWrite x c d s).hs.arrivalCounter = s.hs.arrivalCounter := by simp [discardHeldWrite]

@[simp] theorem cutReleased_arrivalCounter (c : Nat) (s : State) :
    (cutReleased c s).hs.arrivalCounter = s.hs.arrivalCounter := by unfold cutReleased; split <;> simp

@[simp] theorem lengthMismatch_arrivalCounter (c : Nat) (d : DataState) (s : State) :
    (lengthMismatch c d s).hs.arrivalCounter = s.hs.arrivalCounter := by
  unfold lengthMismatch; dsimp only; (repeat' split) <;> simp

@[simp] theorem requesterAborts_arrivalCounter (c : Nat) (s : State) :
    (requesterAborts c s).hs.arrivalCounter = s.hs.arrivalCounter := by
  unfold requesterAborts; (repeat' split) <;> simp

@[simp] theorem closeReception_arrivalCounter (c : Nat) (ev : Closing) (s : State) :
    (closeReception c ev s).hs.arrivalCounter = s.hs.arrivalCounter := by
  unfold closeReception; (repeat' split) <;> simp

@[simp] theorem landBeat_arrivalCounter (c : Nat) (b : Beat) (s : State) :
    (landBeat c b s).hs.arrivalCounter = s.hs.arrivalCounter := by
  unfold landBeat; (repeat' split) <;> simp

@[simp] theorem endPacket_arrivalCounter (ev : Closing) (s : State) :
    (endPacket ev s).hs.arrivalCounter = s.hs.arrivalCounter := by
  unfold endPacket; split <;> simp

@[simp] theorem headerArrives_arrivalCounter (h : Header) (s : State) :
    (headerArrives h s).hs.arrivalCounter = s.hs.arrivalCounter := by
  unfold headerArrives; dsimp only; split <;> simp

@[simp] theorem loseBeat_arrivalCounter (s : State) : (loseBeat s).hs.arrivalCounter = s.hs.arrivalCounter := by
  unfold loseBeat; split <;> simp

@[simp] theorem beatArrives_arrivalCounter (b : Beat) (s : State) :
    (beatArrives b s).hs.arrivalCounter = s.hs.arrivalCounter := by
  unfold beatArrives; dsimp only; (repeat' split) <;> simp

@[simp] theorem markArrives_arrivalCounter (ev : Closing) (s : State) :
    (markArrives ev s).hs.arrivalCounter = s.hs.arrivalCounter := by
  unfold markArrives; split <;> simp

/-! ### Releases -/

@[simp] theorem releaseDescriptor_arrivalCounter (d : Descriptor) (s : State) :
    (releaseDescriptor d s).hs.arrivalCounter = s.hs.arrivalCounter := by simp [releaseDescriptor]

@[simp] theorem release_arrivalCounter (l : LaneName) (d : Descriptor) (s : State) :
    (release l d s).hs.arrivalCounter = s.hs.arrivalCounter := by unfold release; split <;> simp

@[simp] theorem visitFrom_arrivalCounter (l : LaneName) (p : SearchPlace) (s : State) :
    (visitFrom l p s).hs.arrivalCounter = s.hs.arrivalCounter := by
  rcases visitFrom_cases l p s with ⟨d, -, h⟩ | ⟨d, -, -, h⟩ | ⟨-, -, h⟩ <;> simp [h]

@[simp] theorem visit_arrivalCounter (l : LaneName) (c : SvcClass) (s : State) :
    (visit l c s).hs.arrivalCounter = s.hs.arrivalCounter := visitFrom_arrivalCounter l _ s

@[simp] theorem visitPhase_arrivalCounter (l : LaneName) (s : State) :
    (visitPhase l s).hs.arrivalCounter = s.hs.arrivalCounter := by unfold visitPhase; split <;> simp

@[simp] theorem arriveAndVisit_arrivalCounter (l : LaneName) (s : State) :
    (arriveAndVisit l s).hs.arrivalCounter = s.hs.arrivalCounter := by
  unfold arriveAndVisit; dsimp only; (repeat' split) <;> simp

@[simp] theorem slotVisit_arrivalCounter (l : LaneName) (s : State) :
    (slotVisit l s).hs.arrivalCounter = s.hs.arrivalCounter := by unfold slotVisit; (repeat' split) <;> simp

@[simp] theorem drainSearch_arrivalCounter (s : State) :
    (drainSearch s).hs.arrivalCounter = s.hs.arrivalCounter := by
  unfold drainSearch drainOnce; (repeat' split) <;> simp

/-! ### The downstream side -/

@[simp] theorem putPacket_arrivalCounter (g : Grant) (s : State) :
    (putPacket g s).hs.arrivalCounter = s.hs.arrivalCounter := by
  unfold putPacket; dsimp only; (repeat' split) <;> simp

@[simp] theorem packetBegin_arrivalCounter (s : State) :
    (packetBegin s).hs.arrivalCounter = s.hs.arrivalCounter := by unfold packetBegin; split <;> simp

@[simp] theorem unitSend_arrivalCounter (s : State) : (unitSend s).hs.arrivalCounter = s.hs.arrivalCounter := by
  unfold unitSend sendEndMark; (repeat' split) <;> simp

@[simp] theorem underrunExpires_arrivalCounter (s : State) :
    (underrunExpires s).hs.arrivalCounter = s.hs.arrivalCounter := by
  unfold underrunExpires underrunWrite; dsimp only; (repeat' split) <;> simp

/-! ### Link events -/

@[simp] theorem holdStoreUpDown_arrivalCounter (s : State) :
    (holdStoreUpDown s).hs.arrivalCounter = s.hs.arrivalCounter := by simp [holdStoreUpDown]

@[simp] theorem releasedUpDown_arrivalCounter (r : UpReception) (s : State) :
    (releasedUpDown r s).hs.arrivalCounter = s.hs.arrivalCounter := by cases r <;> simp [releasedUpDown]

@[simp] theorem upLinkGoesDown_arrivalCounter (s : State) :
    (upLinkGoesDown s).hs.arrivalCounter = s.hs.arrivalCounter := by simp [upLinkGoesDown]

@[simp] theorem endTransmissions_arrivalCounter (cells : List Nat) (s : State) :
    (endTransmissions cells s).hs.arrivalCounter = s.hs.arrivalCounter :=
  foldl_keeps (fun t : State => t.hs.arrivalCounter) _ (fun _ _ => by simp) cells s

@[simp] theorem downLinkGoesDown_arrivalCounter (s : State) :
    (downLinkGoesDown s).hs.arrivalCounter = s.hs.arrivalCounter := by simp [downLinkGoesDown]

/-! ### Field writes and the change list -/

@[simp] theorem disableEntry_arrivalCounter (e : EntryIx) (s : State) :
    (disableEntry e s).hs.arrivalCounter = s.hs.arrivalCounter := by
  unfold disableEntry disableHeld; split <;> simp

/-- A write of a code keeps the counter if the write it makes does. -/
theorem writeCode_arrivalCounter {α : Type} (o : Option α) {f : α → State → State} (s : State)
    (keeps : ∀ a, (f a s).hs.arrivalCounter = s.hs.arrivalCounter) :
    (writeCode o f s).1.hs.arrivalCounter = s.hs.arrivalCounter := by
  cases o with
  | none => rfl
  | some a => exact keeps a

@[simp] theorem writeEntryNumber_arrivalCounter (e : EntryIx) (lo hi v : Nat) (f : Nat → EntryConfig → EntryConfig)
    (s : State) : (writeEntryNumber e lo hi v f s).1.hs.arrivalCounter = s.hs.arrivalCounter := rfl

@[simp] theorem writeEntryField_arrivalCounter (e : EntryIx) (f : EntryField) (v : Nat) (s : State) :
    (writeEntryField e f v s).1.hs.arrivalCounter = s.hs.arrivalCounter := by
  cases f with
  | enabled => unfold writeEntryField; dsimp only; (repeat' split) <;> simp [refuseWrite]
  | cls | lendRatio | refillSource | crossing => exact writeCode_arrivalCounter _ s fun _ => by simp
  | key | mask | baseLow | baseHigh | limitLow | limitHigh | floor | ceiling | weight | burst | pinnedRefill | quota
  | flightCap | meterLow | meterHigh | offset => simp [writeEntryField]

@[simp] theorem writeClassField_arrivalCounter (c : SvcClass) (f : ClassField) (v : Nat) (s : State) :
    (writeClassField c f v s).1.hs.arrivalCounter = s.hs.arrivalCounter := by
  cases f with
  | cutThrough | policy => exact writeCode_arrivalCounter _ s fun _ => by simp
  | startMark => simp [writeClassField]

@[simp] theorem writeSlotField_arrivalCounter (i : Fin 16) (f : SlotField) (v : Nat) (s : State) :
    (writeSlotField i f v s).1.hs.arrivalCounter = s.hs.arrivalCounter := by
  cases f <;> exact writeCode_arrivalCounter _ s fun _ => by simp

@[simp] theorem writeWheelSetting_arrivalCounter (f : WheelSetting) (v : Nat) (s : State) :
    (writeWheelSetting f v s).1.hs.arrivalCounter = s.hs.arrivalCounter := by
  cases f <;> exact writeCode_arrivalCounter _ s fun _ => by simp

@[simp] theorem writeGlobalField_arrivalCounter (f : GlobalField) (v : Word) (s : State) :
    (writeGlobalField f v s).1.hs.arrivalCounter = s.hs.arrivalCounter := by
  cases f with
  | epochSource | paceDirection => exact writeCode_arrivalCounter _ s fun _ => by simp
  | epochPeriod | portEpochBytes | penaltyScale | rescueScale | readFactor | writeFactor | responseTimeout
  | windowEpochs | overDeclare | overClear | starveDeclare | starveClear | mark _ | eventMask =>
    simp [writeGlobalField, writeNumber]

@[simp] theorem writeListField_arrivalCounter (i : Fin 32) (f : ListField) (v : Word) (s : State) :
    (writeListField i f v s).1.hs.arrivalCounter = s.hs.arrivalCounter := by unfold writeListField; split <;> simp

@[simp] theorem writeTriggerField_arrivalCounter (f : TriggerField) (v : Nat) (s : State) :
    (writeTriggerField f v s).1.hs.arrivalCounter = s.hs.arrivalCounter := by
  cases f with
  | source | oneShot => exact writeCode_arrivalCounter _ s fun _ => by simp
  | countdownLength => simp [writeTriggerField, writeNumber]

@[simp] theorem writeAt_arrivalCounter (f : Field) (v : Word) (s : State) :
    (writeAt f v s).1.hs.arrivalCounter = s.hs.arrivalCounter := by cases f <;> simp [writeAt, refuseWrite]

@[simp] theorem applyToEntry_arrivalCounter (f : EntryField) (n v : Nat) (s : State) :
    (applyToEntry f n v s).1.hs.arrivalCounter = s.hs.arrivalCounter := by
  unfold applyToEntry; split <;> simp [refuseWrite]

@[simp] theorem applyToSlot_arrivalCounter (n v : Nat) (s : State) :
    (applyToSlot n v s).1.hs.arrivalCounter = s.hs.arrivalCounter := by
  unfold applyToSlot; split <;> simp [refuseWrite]

@[simp] theorem applyKind_arrivalCounter (k : ListKind) (n : Nat) (v : Word) (s : State) :
    (applyKind k n v s).1.hs.arrivalCounter = s.hs.arrivalCounter := by cases k <;> simp [applyKind]

@[simp] theorem applyNext_arrivalCounter (s : State) : (applyNext s).hs.arrivalCounter = s.hs.arrivalCounter := by
  unfold applyNext runOn runDone runFault; dsimp only; (repeat' split) <;> simp

/-! ### Resets -/

@[simp] theorem softResetHold_arrivalCounter (s : State) :
    (softResetHold s).hs.arrivalCounter = s.hs.arrivalCounter := by simp [softResetHold]

@[simp] theorem softResetList_arrivalCounter (s : State) :
    (softResetList s).hs.arrivalCounter = s.hs.arrivalCounter := by
  unfold softResetList landFromRun landHanded; dsimp only; (repeat' split) <;> simp

@[simp] theorem blockAct_arrivalCounter (b : ResetBlock) (s : State) :
    (blockAct b s).hs.arrivalCounter = s.hs.arrivalCounter := by cases b <;> simp [blockAct]

@[simp] theorem takeAct_arrivalCounter (s : State) : (takeAct s).hs.arrivalCounter = s.hs.arrivalCounter := by
  rcases takeAct_cases s with ⟨-, h⟩ | ⟨b, -, h⟩ <;> simp [h]

@[simp] theorem takeActs_arrivalCounter (n : Nat) (s : State) :
    (takeActs n s).hs.arrivalCounter = s.hs.arrivalCounter := by
  induction n generalizing s with
  | zero => rfl
  | succ n ih => simp [takeActs, ih]

@[simp] theorem allActs_arrivalCounter (s : State) : (allActs s).hs.arrivalCounter = s.hs.arrivalCounter :=
  takeActs_arrivalCounter _ s

@[simp] theorem someActs_arrivalCounter (s : State) : (someActs s).hs.arrivalCounter = s.hs.arrivalCounter :=
  takeActs_arrivalCounter _ _

@[simp] theorem softReset_arrivalCounter (pin : Bool) (s : State) :
    (softReset pin s).hs.arrivalCounter = s.hs.arrivalCounter := by simp [softReset, handReset]

/-! ### The controller's frames: only a field write may reach the Hold Store -/

@[simp] theorem noSuchField_hs (s : State) : (noSuchField s).hs = s.hs := by simp [noSuchField]

@[simp] theorem readMeasured_hs (e : EntryIx) (s : State) : (readMeasured e s).hs = s.hs := by simp [readMeasured]

@[simp] theorem readReleasedLow_hs (e : EntryIx) (s : State) : (readReleasedLow e s).hs = s.hs := by
  simp [readReleasedLow]

@[simp] theorem readReleasedHigh_hs (e : EntryIx) (s : State) : (readReleasedHigh e s).hs = s.hs := by
  unfold readReleasedHigh; (repeat' split) <;> simp

@[simp] theorem readAt_hs (table index field : Nat) (s : State) : (readAt table index field s).hs = s.hs := by
  unfold readAt readNamed; (repeat' split) <;> simp

@[simp] theorem readStatus_hs (pin : Bool) (s : State) : (readStatus pin s).hs = s.hs := by simp [readStatus]

@[simp] theorem clearStatus_hs (v : Word) (pin : Bool) (s : State) : (clearStatus v pin s).hs = s.hs := by
  simp [clearStatus]

@[simp] theorem popEvent_hs (s : State) : (popEvent s).hs = s.hs := by unfold popEvent; split <;> simp

@[simp] theorem arm_hs (s : State) : (arm s).hs = s.hs := by simp [arm, answerActivity]

@[simp] theorem disarm_hs (s : State) : (disarm s).hs = s.hs := by simp [disarm, answerActivity]

@[simp] theorem go_hs (s : State) : (go s).hs = s.hs := by unfold go; split <;> simp [answerActivity]

@[simp] theorem inject_hs (index : Byte) (v : Word) (s : State) : (inject index v s).hs = s.hs := by
  unfold inject injectEntry; (repeat' split) <;> simp

@[simp] theorem clearCounters_hs (s : State) : (clearCounters s).hs = s.hs := by simp [clearCounters]

@[simp] theorem writeNamed_arrivalCounter (f : Field) (v : Word) (s : State) :
    (writeNamed f v s).hs.arrivalCounter = s.hs.arrivalCounter := by simp [writeNamed]

@[simp] theorem writeField_arrivalCounter (table index field : Nat) (v : Word) (s : State) :
    (writeField table index field v s).hs.arrivalCounter = s.hs.arrivalCounter := by
  unfold writeField; split <;> simp

@[simp] theorem writeListEntry_arrivalCounter (index field : Byte) (v : Word) (s : State) :
    (writeListEntry index field v s).hs.arrivalCounter = s.hs.arrivalCounter := by
  unfold writeListEntry; split <;> simp

/-! ### Where a command answers -/

/-- A command on a requester entry keeps the counter if it does for every entry. -/
@[simp] theorem onEntry_arrivalCounter (index : Byte) {f : EntryIx → State → State} (s : State)
    (keeps : ∀ e, (f e s).hs.arrivalCounter = s.hs.arrivalCounter) :
    (onEntry index f s).hs.arrivalCounter = s.hs.arrivalCounter := by
  unfold onEntry; split <;> simp [keeps]

theorem onUpLink_arrivalCounter {f : State → State} (s : State)
    (keeps : (f s).hs.arrivalCounter = s.hs.arrivalCounter) :
    (onUpLink f s).hs.arrivalCounter = s.hs.arrivalCounter := by unfold onUpLink; split <;> simp [keeps]

theorem onDownLink_arrivalCounter {f : State → State} (s : State)
    (keeps : (f s).hs.arrivalCounter = s.hs.arrivalCounter) :
    (onDownLink f s).hs.arrivalCounter = s.hs.arrivalCounter := by unfold onDownLink; split <;> simp [keeps]

theorem whilePowered_arrivalCounter {f : State → State} {s t : State} (run : whilePowered f s = .next t)
    (keeps : (f s).hs.arrivalCounter = s.hs.arrivalCounter) : t.hs.arrivalCounter = s.hs.arrivalCounter := by
  rw [whilePowered_next run]; split <;> simp [keeps]

/-- A frame keeps the counter if its own act does: the acts that were due keep it. -/
theorem framed_arrivalCounter {f : State → State} {s t : State} (run : framed f s = .next t)
    (keeps : ∀ u, (f u).hs.arrivalCounter = u.hs.arrivalCounter) : t.hs.arrivalCounter = s.hs.arrivalCounter :=
  whilePowered_arrivalCounter run (by simp [keeps])

/-- R38: no command but a disposition and power-on reset moves the arrival counter. -/
theorem exec_arrivalCounter {c : Instr} {s t : State} (run : exec c s = .next t) (not_disposition : c ≠ .disposition)
    (not_powerOn : ∀ p, c ≠ .powerOnReset p) : t.hs.arrivalCounter = s.hs.arrivalCounter := by
  cases c with
  | disposition => exact absurd rfl not_disposition
  | powerOnReset p => exact absurd rfl (not_powerOn p)
  | powerOnResetAsserted | frameAbort => cases run; rfl
  | upHeaderArrival _ | upBeatArrival _ | upEndMark | requesterAbort | switchCreditGrant _ _ | upResponseSend
  | upLinkDown => exact whilePowered_arrivalCounter run (onUpLink_arrivalCounter s (by simp))
  | responseHeaderArrival _ | responseBeatArrival _ | responseMarkArrival _ | memoryCreditGrant _ _ | downLinkDown =>
    exact whilePowered_arrivalCounter run (onDownLink_arrivalCounter s (by simp))
  | upLinkUp | downLinkUp | startUpFillEnd | epochTimerExpiry | pacePulseEnd | paceEdge | refillLanding
  | refillPassEnd | entryEvaluation | slotVisit _ | slotPairStep | drainSearch | packetBegin | dpUnitSend
  | responseTimerExpiry _ _ | underrun | countdownExpiry | changeListApply =>
    exact whilePowered_arrivalCounter run (by simp)
  | readField _ _ _ | readM _ | readReleasedBytesLow _ | readReleasedBytesHigh _ | readStatus _ | clearStatus _ _
  | popEvent | writeField _ _ _ _ | enable _ | disable _ | setBurst _ _ | portEpochBytesWrite _
  | pressureMarkWrite _ _ | paceDirectionWrite _ | triggerSourceWrite _ | changeListEntryWrite _ _ _
  | eventMaskWrite _ | wheelSettingWrite _ _ | engage | bypass | halt | resume | softReset _ | arm | disarm | go
  | inject _ _ | clearCounters | unknownCommand _ => exact framed_arrivalCounter run (fun _ => by simp)

end Sys2Proof.Machine

/-! SUPPORT. R37 to R40, R49: what a hold adds to the Hold Store, a descriptor with a number of its own and a
reservation with cells of its own, and what the beats and the closing event that wait in the queue make of it. -/

namespace Sys2Proof.Machine

/-! ### A free number and a free cell (R37, R39) -/

/-- A list shorter than `n` misses a number below `n`. -/
theorem exists_lt_notMem {n : Nat} {l : List Nat} (short : l.length < n) : ∃ k < n, k ∉ l := by
  have fewer : l.toFinset.card < (Finset.range n).card := by
    rw [Finset.card_range]; exact l.toFinset_card_le.trans_lt short
  obtain ⟨k, below, missed⟩ := Finset.exists_mem_notMem_of_card_lt_card fewer
  exact ⟨k, Finset.mem_range.mp below, fun listed => missed (List.mem_toFinset.mpr listed)⟩

/-- R37: while a descriptor is free, the fresh one's number belongs to no held transaction. -/
theorem number_ne_freshDescriptor {s : State} (free : 1 ≤ freeDescriptors s) :
    ∀ x ∈ s.hs.held, x.number ≠ freshDescriptor s.hs := by
  have short : (s.hs.held.map (·.number)).length < Config.descriptors := by
    rw [List.length_map]; unfold freeDescriptors at free; omega
  obtain ⟨n, below, unused⟩ := exists_lt_notMem short
  have isFree : s.hs.held.all (·.number != n) = true :=
    List.all_eq_true.mpr fun x listed => bne_iff_ne.mpr fun same => unused (List.mem_map.mpr ⟨x, listed, same⟩)
  unfold freshDescriptor
  cases found : (List.range Config.descriptors).find? fun n => s.hs.held.all (·.number != n) with
  | none => exact absurd isFree (List.find?_eq_none.mp found n (List.mem_range.mpr below))
  | some m => simpa using List.find?_some found

/-- R39: with room for a write of some cells, the first of them is reserved for no other. -/
theorem headD_lowestFreeCells_free {s : State} {n : Nat} (pos : 1 ≤ n) (room : n ≤ freeCells s) :
    (lowestFreeCells s.hs n).headD 0 ∉ reservedCells s.hs := by
  have short : (reservedCells s.hs).length < Config.cells := by unfold freeCells at room; omega
  obtain ⟨c, below, free⟩ := exists_lt_notMem short
  unfold lowestFreeCells
  cases listed : (List.range Config.cells).filter fun c => !(reservedCells s.hs).contains c with
  | nil => simpa [free] using List.filter_eq_nil_iff.mp listed c (List.mem_range.mpr below)
  | cons a l =>
    obtain ⟨k, rfl⟩ : ∃ k, n = k + 1 := ⟨n - 1, by omega⟩
    have first : a ∈ (List.range Config.cells).filter fun c => !(reservedCells s.hs).contains c := by
      rw [listed]; exact List.mem_cons_self
    simpa using (List.mem_filter.mp first).2

theorem one_le_cellsFor (t : Txn) : 1 ≤ cellsFor (txnLength t) := by
  simp only [cellsFor, ceilDiv, txnLength, Config.cellBytes]; omega

/-- R39: under the pool law no reservation begins at a cell that is not reserved. -/
theorem firstCell_ne_of_free {s : State} (law : PoolLaw s) {c : Nat} (free : c ∉ reservedCells s.hs) :
    ∀ r ∈ s.hs.reservations, firstCell r ≠ c := by
  rintro r listed rfl
  obtain ⟨-, -, -, -, lengths⟩ := law
  have pos : 1 ≤ r.cells.length := (lengths r listed).1 ▸ one_le_cellsFor r.txn
  refine free (List.mem_flatMap.mpr ⟨r, listed, ?_⟩)
  unfold firstCell
  cases cells : r.cells with
  | nil => simp [cells] at pos
  | cons a l => simp

/-! ### The verdict -/

/-- R48: what is held has found room in the pool. -/
theorem poolHasRoom_of_hold {h : Header} {s : State} {e : EntryIx} (verdict : verdictOf h s = .hold e) :
    poolHasRoom s (txnOf h) = true := by
  unfold verdictOf at verdict
  dsimp only at verdict
  (repeat' split at verdict) <;> simp_all

theorem one_le_freeDescriptors_of_hold {h : Header} {s : State} {e : EntryIx} (verdict : verdictOf h s = .hold e) :
    1 ≤ freeDescriptors s := by
  have room := poolHasRoom_of_hold verdict
  simp only [poolHasRoom, Bool.and_eq_true, decide_eq_true_eq] at room
  exact room.1

theorem cellsFor_le_freeCells_of_hold {h : Header} {s : State} {e : EntryIx} (write : isWriteRequest h = true)
    (verdict : verdictOf h s = .hold e) : cellsFor (txnLength (txnOf h)) ≤ freeCells s := by
  have room := poolHasRoom_of_hold verdict
  have kind : (txnOf h).kind = .write := by simp [txnOf, write]
  simp only [poolHasRoom, kind, Bool.and_eq_true, decide_eq_true_eq] at room
  exact room.2

/-! ### What leaves the held transactions alone -/

@[simp] theorem evaluatePressure_held (s : State) : (evaluatePressure s).hs.held = s.hs.held := by
  unfold evaluatePressure; dsimp only; (repeat' split) <;> simp

@[simp] theorem evaluatePressure_reservations (s : State) :
    (evaluatePressure s).hs.reservations = s.hs.reservations := by
  unfold evaluatePressure; dsimp only; (repeat' split) <;> simp

@[simp] theorem afterFreeing_held (s : State) : (afterFreeing s).hs.held = s.hs.held := by
  unfold afterFreeing noteFreed; split <;> simp

@[simp] theorem setReservation_held (c : Nat) (f : Reservation → Reservation) (s : State) :
    (setReservation c f s).hs.held = s.hs.held := rfl

@[simp] theorem setData_held (c : Nat) (d : DataState) (s : State) : (setData c d s).hs.held = s.hs.held := by
  simp [setData]

@[simp] theorem setTransmission_held (c : Nat) (x : Transmission) (s : State) :
    (setTransmission c x s).hs.held = s.hs.held := rfl

@[simp] theorem reclaim_held (c : Nat) (s : State) : (reclaim c s).hs.held = s.hs.held := rfl

@[simp] theorem freeCellsIfFinished_held (c : Nat) (s : State) : (freeCellsIfFinished c s).hs.held = s.hs.held := by
  unfold freeCellsIfFinished; (repeat' split) <;> simp

@[simp] theorem cutReleased_held (c : Nat) (s : State) : (cutReleased c s).hs.held = s.hs.held := by
  unfold cutReleased; split <;> simp

@[simp] theorem discardHeldWrite_held (x : Descriptor) (c : Nat) (d : DataState) (s : State) :
    (discardHeldWrite x c d s).hs.held
      = retargetFences x.number x.txn.kind [] (s.hs.held.filter (·.number != x.number)) := by
  simp [discardHeldWrite, discardOne]

/-! ### What is held after a discard was held before it -/

/-- Every transaction of the second list is one of the first, its descriptor's number, entry and stamp with it. -/
def HeldAmong (before after : List Descriptor) : Prop := ∀ d ∈ after, ∃ x ∈ before,
  d.number = x.number ∧ d.entry = x.entry ∧ d.txn = x.txn ∧ d.stamp = x.stamp

@[simp] theorem HeldAmong.refl (l : List Descriptor) : HeldAmong l l := fun d listed =>
  ⟨d, listed, rfl, rfl, rfl, rfl⟩

theorem HeldAmong.trans {a b c : List Descriptor} (ab : HeldAmong a b) (bc : HeldAmong b c) : HeldAmong a c := by
  intro d listed
  obtain ⟨x, inB, number, entry, txn, stamp⟩ := bc d listed
  obtain ⟨y, inA, number', entry', txn', stamp'⟩ := ab x inB
  exact ⟨y, inA, number.trans number', entry.trans entry', txn.trans txn', stamp.trans stamp'⟩

theorem heldAmong_filter (p : Descriptor → Bool) (l : List Descriptor) : HeldAmong l (l.filter p) :=
  fun d listed => ⟨d, List.mem_of_mem_filter listed, rfl, rfl, rfl, rfl⟩

/-- R70: a new choice of targets changes fences and nothing else. -/
theorem heldAmong_retargetFences (n : Nat) (k : Kind) (before l : List Descriptor) :
    HeldAmong l (retargetFences n k before l) := by
  induction l generalizing before with
  | nil => exact .refl []
  | cons a l ih =>
    intro d listed
    rcases List.mem_cons.mp listed with rfl | later
    · exact ⟨a, List.mem_cons_self, by split <;> exact ⟨rfl, rfl, rfl, rfl⟩⟩
    · obtain ⟨x, inL, same⟩ := ih _ d later
      exact ⟨x, List.mem_cons_of_mem a inL, same⟩

theorem heldAmong_discardHeldWrite (x : Descriptor) (c : Nat) (d : DataState) (s : State) :
    HeldAmong s.hs.held (discardHeldWrite x c d s).hs.held := by
  rw [discardHeldWrite_held]
  exact (heldAmong_filter _ _).trans (heldAmong_retargetFences _ _ _ _)

theorem heldAmong_lengthMismatch (c : Nat) (d : DataState) (s : State) :
    HeldAmong s.hs.held (lengthMismatch c d s).hs.held := by
  unfold lengthMismatch
  split
  · exact .refl _
  · split
    · next x _ => simpa only [afterFreeing_held, postFault_hs, countRefusal_hs, placeGenerated_hs] using
        heldAmong_discardHeldWrite x c d s
    · dsimp only
      (repeat' split) <;> simp

theorem heldAmong_requesterAborts (c : Nat) (s : State) : HeldAmong s.hs.held (requesterAborts c s).hs.held := by
  unfold requesterAborts
  split
  · exact .refl _
  · split
    · next x _ => simpa only [afterFreeing_held] using heldAmong_discardHeldWrite x c .closed s
    · split <;> simp

theorem heldAmong_closeReception (c : Nat) (ev : Closing) (s : State) :
    HeldAmong s.hs.held (closeReception c ev s).hs.held := by
  unfold closeReception
  (repeat' split) <;> simp [heldAmong_lengthMismatch, heldAmong_requesterAborts]

theorem heldAmong_landBeat (c : Nat) (b : Beat) (s : State) : HeldAmong s.hs.held (landBeat c b s).hs.held := by
  unfold landBeat
  (repeat' split) <;> simp [heldAmong_lengthMismatch]

theorem heldAmong_landBeats (c : Nat) (bs : List Beat) (s : State) :
    HeldAmong s.hs.held (bs.foldl (fun t b => landBeat c b t) s).hs.held := by
  induction bs generalizing s with
  | nil => exact .refl _
  | cons b bs ih => exact (heldAmong_landBeat c b s).trans (ih _)

/-! ### The beats of a write that fit it (R52) -/

/-- The write whose reservation begins at a cell is RECEIVING, stands at a whole beat, and has room for these beats. -/
def HasRoomFor (s : State) (c : Nat) (bs : List Beat) : Prop :=
  ∃ r, reservationAt s c = some r ∧ r.data = .receiving ∧ r.received % 64 = 0
    ∧ r.received + bs.flatten.length ≤ txnLength r.txn

theorem reservationAt_congr {s t : State} (same : t.hs.reservations = s.hs.reservations) (c : Nat) :
    reservationAt t c = reservationAt s c := by unfold reservationAt; rw [same]

/-- R52: what a beat that fits does at the Hold Store: its bytes are written and counted, and nothing else. -/
theorem landBeat_hs_of_fits {s : State} {c : Nat} {b : Beat} {r : Reservation} (found : reservationAt s c = some r)
    (receiving : r.data = .receiving) (aligned : r.received % 64 = 0)
    (fits : r.received + b.length ≤ txnLength r.txn) :
    (landBeat c b s).hs
      = (setReservation c (fun r => { r with received := r.received + b.length })
          (s.onHs fun h => { h with bytes := writeBytes r.cells r.received b h.bytes })).hs := by
  have accepted : ¬ (txnLength r.txn < r.received + b.length ∨ r.received % Config.beatBytes ≠ 0) := by
    simp only [Config.beatBytes]; omega
  simp [landBeat, found, receiving, accepted]

theorem reservationAt_landBeat_of_fits {s : State} {c : Nat} {b : Beat} {r : Reservation}
    (found : reservationAt s c = some r) (receiving : r.data = .receiving) (aligned : r.received % 64 = 0)
    (fits : r.received + b.length ≤ txnLength r.txn) :
    reservationAt (landBeat c b s) c = some { r with received := r.received + b.length } := by
  rw [reservationAt_congr (congrArg HoldStore.reservations (landBeat_hs_of_fits found receiving aligned fits)),
    reservationAt_setReservation (f := fun r => { r with received := r.received + b.length }) fun _ => rfl]
  change Option.map _ (reservationAt s c) = _
  simp [found]

theorem landBeat_held_of_fits {s : State} {c : Nat} {b : Beat} {bs : List Beat} (room : HasRoomFor s c (b :: bs)) :
    (landBeat c b s).hs.held = s.hs.held := by
  obtain ⟨r, found, receiving, aligned, fits⟩ := room
  rw [List.flatten_cons, List.length_append] at fits
  rw [landBeat_hs_of_fits found receiving aligned (by omega)]
  rfl

/-- R52: after a whole beat the write has room for the beats that follow. -/
theorem hasRoomFor_landBeat {s : State} {c : Nat} {b : Beat} {bs : List Beat} (room : HasRoomFor s c (b :: bs))
    (whole : b.length = 64) : HasRoomFor (landBeat c b s) c bs := by
  obtain ⟨r, found, receiving, aligned, fits⟩ := room
  rw [List.flatten_cons, List.length_append] at fits
  refine ⟨{ r with received := r.received + b.length }, ?_, receiving, ?_, ?_⟩
  · exact reservationAt_landBeat_of_fits found receiving aligned (by omega)
  · dsimp only; omega
  · dsimp only; omega

/-- R52: beats of 64 bytes, the last of any length, that fit the write discard nothing. -/
theorem landBeats_held_of_fit {s : State} {c : Nat} {bs : List Beat} (room : HasRoomFor s c bs)
    (whole : ∀ b ∈ bs.dropLast, b.length = 64) :
    (bs.foldl (fun t b => landBeat c b t) s).hs.held = s.hs.held := by
  induction bs generalizing s with
  | nil => rfl
  | cons b bs ih =>
    rw [List.foldl_cons]
    cases bs with
    | nil => exact landBeat_held_of_fits room
    | cons b' bs =>
      have whole_first : b.length = 64 := whole b (by simp)
      rw [ih (hasRoomFor_landBeat room whole_first) fun x listed => whole x (by simp [listed]),
        landBeat_held_of_fits room]

/-! ### The hold (R49) -/

theorem newDescriptor_number (h : Header) (e : EntryIx) (s : State) :
    (newDescriptor h e s).number = freshDescriptor s.hs := by simp only [newDescriptor]

@[simp] theorem takeHead_hs (rest : List ArrivalPacket) (next : UpReception) (s : State) :
    (takeHead rest next s).hs = { s.hs with stalled := false, retryDue := false } := by simp [takeHead]

/-- R49: the part once the head is held, before its waiting beats land. -/
def stored (p : ArrivalPacket) (rest : List ArrivalPacket) (e : EntryIx) (s : State) : State :=
  wake (evaluatePressure
    (takeHead rest (.cells ((newDescriptor p.header e s).cells.getD 0)) (storeHeld p e s)))

/-- R49: a write's waiting beats and closing event are taken after the hold; a read has none. -/
theorem holdHead_eq (p : ArrivalPacket) (rest : List ArrivalPacket) (e : EntryIx) (s : State) :
    holdHead p rest e s =
      let cell := (newDescriptor p.header e s).cells.getD 0
      let landed := p.beats.foldl (fun t b => landBeat cell b t) (stored p rest e s)
      if isWriteRequest p.header then p.closing.elim landed (closeReception cell · landed)
      else stored p rest e s := by
  unfold holdHead
  dsimp only
  split
  · cases p.closing <;> rfl
  · rfl

@[simp] theorem stored_arrivalCounter (p : ArrivalPacket) (rest : List ArrivalPacket) (e : EntryIx) (s : State) :
    (stored p rest e s).hs.arrivalCounter = s.hs.arrivalCounter + 1 := by simp [stored, storeHeld]

@[simp] theorem stored_held (p : ArrivalPacket) (rest : List ArrivalPacket) (e : EntryIx) (s : State) :
    (stored p rest e s).hs.held = s.hs.held ++ [newDescriptor p.header e s] := by simp [stored, storeHeld]

theorem stored_reservations {p : ArrivalPacket} (write : isWriteRequest p.header = true) (rest : List ArrivalPacket)
    (e : EntryIx) (s : State) :
    (stored p rest e s).hs.reservations = s.hs.reservations ++ [newReservation p.header e p.lostBeat s] := by
  simp [stored, storeHeld, write]

/-- R49: a held write's descriptor names the cell its reservation begins at. -/
theorem newDescriptor_cells_getD {h : Header} (write : isWriteRequest h = true) (e : EntryIx) (lost : Bool)
    (s : State) : (newDescriptor h e s).cells.getD 0 = firstCell (newReservation h e lost s) := by
  simp [newDescriptor, newReservation, firstCell, txnOf, write]

/-- R49, R52: the reservation of a write just held takes every beat that its length has room for. -/
theorem hasRoomFor_stored {s : State} {p : ArrivalPacket} {e : EntryIx} (rest : List ArrivalPacket)
    (write : isWriteRequest p.header = true) (verdict : verdictOf p.header s = .hold e) (law : PoolLaw s)
    (fits : p.beats.flatten.length ≤ txnLength (txnOf p.header)) :
    HasRoomFor (stored p rest e s) ((newDescriptor p.header e s).cells.getD 0) p.beats := by
  refine ⟨newReservation p.header e p.lostBeat s, ?_, rfl, rfl, by simpa [newReservation] using fits⟩
  rw [newDescriptor_cells_getD write e p.lostBeat]
  have free : firstCell (newReservation p.header e p.lostBeat s) ∉ reservedCells s.hs :=
    headD_lowestFreeCells_free (one_le_cellsFor _) (cellsFor_le_freeCells_of_hold write verdict)
  have others := firstCell_ne_of_free law free
  have missed : s.hs.reservations.find? (firstCell · == firstCell (newReservation p.header e p.lostBeat s)) = none :=
    List.find?_eq_none.mpr (by simpa using others)
  rw [reservationAt, stored_reservations write, List.find?_append, missed]
  simp

@[simp] theorem landBeats_arrivalCounter (c : Nat) (bs : List Beat) (s : State) :
    (bs.foldl (fun t b => landBeat c b t) s).hs.arrivalCounter = s.hs.arrivalCounter :=
  foldl_keeps (fun t : State => t.hs.arrivalCounter) _ (fun t b => landBeat_arrivalCounter c b t) bs s

/-- R38: a hold advances the counter by one, whatever its waiting units do. -/
theorem holdHead_arrivalCounter (p : ArrivalPacket) (rest : List ArrivalPacket) (e : EntryIx) (s : State) :
    (holdHead p rest e s).hs.arrivalCounter = s.hs.arrivalCounter + 1 := by
  rw [holdHead_eq]
  dsimp only
  split
  · cases p.closing <;> simp
  · simp

/-- R49, R54, R56: after a hold nothing is held but the new transaction and those held before it. -/
theorem heldAmong_holdHead (p : ArrivalPacket) (rest : List ArrivalPacket) (e : EntryIx) (s : State) :
    HeldAmong (s.hs.held ++ [newDescriptor p.header e s]) (holdHead p rest e s).hs.held := by
  rw [holdHead_eq, ← stored_held p rest e s]
  dsimp only
  split
  · have landed := heldAmong_landBeats ((newDescriptor p.header e s).cells.getD 0) p.beats (stored p rest e s)
    cases p.closing with
    | none => exact landed
    | some ev => exact landed.trans (heldAmong_closeReception _ ev _)
  · exact .refl _

/-- R49: with no unit waiting the hold adds its descriptor at the end. -/
theorem holdHead_held_of_nothing_waits {p : ArrivalPacket} (rest : List ArrivalPacket) (e : EntryIx) (s : State)
    (unclosed : p.closing = none) (no_beats : p.beats = []) :
    (holdHead p rest e s).hs.held = s.hs.held ++ [newDescriptor p.header e s] := by
  rw [holdHead_eq, unclosed, no_beats]
  simp

/-- R49, R52: so it does with waiting beats that fit the write. -/
theorem holdHead_held_of_beats_fit {s : State} {p : ArrivalPacket} {e : EntryIx} (rest : List ArrivalPacket)
    (verdict : verdictOf p.header s = .hold e) (law : PoolLaw s) (unclosed : p.closing = none)
    (whole : ∀ b ∈ p.beats.dropLast, b.length = 64)
    (fits : p.beats.flatten.length ≤ txnLength (txnOf p.header)) :
    (holdHead p rest e s).hs.held = s.hs.held ++ [newDescriptor p.header e s] := by
  rw [holdHead_eq, unclosed, ← stored_held p rest e s]
  dsimp only
  split
  · next write => exact landBeats_held_of_fit (hasRoomFor_stored rest write verdict law fits) whole
  · rfl

/-! ### The disposition -/

@[simp] theorem answerHead_held (p : ArrivalPacket) (rest : List ArrivalPacket) (st : Status) (s : State) :
    (answerHead p rest st s).hs.held = s.hs.held := by simp [answerHead]

@[simp] theorem answerHead_arrivalCounter (p : ArrivalPacket) (rest : List ArrivalPacket) (st : Status) (s : State) :
    (answerHead p rest st s).hs.arrivalCounter = s.hs.arrivalCounter := by simp [answerHead]

/-- R42: an attempt that the checks let through holds its head. -/
theorem dispose_of_hold {s : State} {p : ArrivalPacket} {rest : List ArrivalPacket} {e : EntryIx}
    (queue : s.up.queue = p :: rest) (offered : headOffered s = true) (verdict : verdictOf p.header s = .hold e) :
    dispose s = holdHead p rest e s := by simp [dispose, queue, offered, verdict]

/-- R38, R42: an attempt that holds nothing leaves the counter and the held transactions. -/
theorem dispose_of_no_hold {s : State}
    (no_hold : ∀ p rest e, s.up.queue = p :: rest → headOffered s = true → verdictOf p.header s ≠ .hold e) :
    (dispose s).hs.arrivalCounter = s.hs.arrivalCounter ∧ (dispose s).hs.held = s.hs.held := by
  unfold dispose
  split
  · exact ⟨rfl, rfl⟩
  · next p rest queue =>
    split
    · next offered =>
      cases verdict : verdictOf p.header s with
      | hold e => exact absurd verdict (no_hold p rest e queue offered)
      | malformed | window _ | duplicate _ | defer _ | stall => simp
    · exact ⟨rfl, rfl⟩

/-- R37, R38: a transaction held after a hold is the new one, with the counter's stamp and a number of its own, or was
held before. -/
theorem stamped_or_held_of_holdHead {s : State} {p : ArrivalPacket} {e : EntryIx} (rest : List ArrivalPacket)
    (verdict : verdictOf p.header s = .hold e) : ∀ d ∈ (holdHead p rest e s).hs.held,
      (d.stamp = s.hs.arrivalCounter ∧ d.txn = txnOf p.header ∧ d.entry = e ∧ ∀ x ∈ s.hs.held, x.number ≠ d.number)
        ∨ ∃ x ∈ s.hs.held, x.number = d.number ∧ x.stamp = d.stamp ∧ x.txn = d.txn := by
  intro d listed
  obtain ⟨x, among, number, entry, txn, stamp⟩ := heldAmong_holdHead p rest e s d listed
  rw [number, entry, txn, stamp]
  rcases List.mem_append.mp among with old | new
  · exact .inr ⟨x, old, rfl, rfl, rfl⟩
  · rw [List.mem_singleton.mp new, newDescriptor_number]
    exact .inl ⟨rfl, rfl, rfl, number_ne_freshDescriptor (one_le_freeDescriptors_of_hold verdict)⟩

/-- Settles O60: the frame of every other command, the attempt that holds nothing, and the hold. -/
theorem arrivalCounterStampsHolds : Obligations.ArrivalCounterStampsHolds := by
  refine ⟨?powerOn, fun _ _ _ => exec_arrivalCounter, ?nothing_held, ?hold, rfl⟩
  case powerOn =>
    intro s t strap run
    cases run
    rfl
  case nothing_held =>
    intro s t run no_hold
    rw [whilePowered_next run]
    split
    · next powered => exact dispose_of_no_hold fun p rest e => no_hold p rest e powered
    · exact ⟨rfl, rfl⟩
  case hold =>
    intro s t p rest e powered queue offered verdict run
    have held : t = holdHead p rest e s := by
      rw [whilePowered_next run, if_pos powered, dispose_of_hold queue offered verdict]
    subst held
    exact ⟨holdHead_arrivalCounter p rest e s, stamped_or_held_of_holdHead rest verdict,
      fun unclosed no_beats => ⟨_, holdHead_held_of_nothing_waits rest e s unclosed no_beats, rfl⟩,
      fun whole fits unclosed law => ⟨_, holdHead_held_of_beats_fit rest verdict law unclosed whole fits, rfl⟩⟩

end Sys2Proof.Machine

/-! SUPPORT. R186, R189 to R191: the three cases of a post, the write of the event mask, a POP EVENT, and the ALERT line. -/

namespace Sys2Proof.Machine

/-! ### A post at the event queue (R189) -/

/-- R189: a kind the mask lets through, at a full queue. -/
theorem postEvent_dropped {k : EventKind} {s : State} (on : s.mp.eventMask.getLsbD (eventCode k) = true)
    (full : 32 ≤ s.mp.events.length) (e : Option EntryIx) (v : Option Nat) :
    postEvent k e v s = { s with mp := { s.mp with eventLost := true } } := by
  have no_place : ¬ s.mp.events.length < Config.eventPlaces := Nat.not_lt.mpr full
  simp [postEvent, on, no_place, State.onMp]

/-- R189: a kind the mask lets through, with a place free. -/
theorem postEvent_queued {k : EventKind} {s : State} (on : s.mp.eventMask.getLsbD (eventCode k) = true)
    (room : s.mp.events.length < 32) (e : Option EntryIx) (v : Option Nat) :
    postEvent k e v s
      = { s with mp := { s.mp with
                         events := s.mp.events ++ [⟨k, e, v.map (BitVec.ofNat 32), s.ce.epochCounter⟩] } } := by
  have place : s.mp.events.length < Config.eventPlaces := room
  simp [postEvent, on, place, State.onMp]

/-- R189: no post takes the queue past its places. -/
theorem postEvent_eventLaw (k : EventKind) (e : Option EntryIx) (v : Option Nat) {s : State} (law : EventLaw s) :
    EventLaw (postEvent k e v s) := by
  cases on : s.mp.eventMask.getLsbD (eventCode k) with
  | false => rwa [postEvent_masked on]
  | true =>
    rcases Nat.lt_or_ge s.mp.events.length 32 with room | full
    · rw [postEvent_queued on room]
      simpa [EventLaw, Config.eventPlaces] using room
    · rwa [postEvent_dropped on full]

/-! ### The event mask (R186) -/

theorem fieldValue_eventMask (s : State) : fieldValue s (.global .eventMask) = some s.mp.eventMask := by
  simp [fieldValue, globalValue]

/-- R186: CLAMPED tells that a bit outside 1 to 20 was written. -/
theorem storedCode_mask (v : Word) :
    storedCode (v &&& maskBits).toNat v.toNat = if v &&& maskBits = v then .done else .clamped := by
  simp only [storedCode, BitVec.toNat_inj]

/-- R186: what a write of the event mask makes of the part. -/
theorem writeNamed_eventMask (v : Word) (s : State) :
    writeNamed (.global .eventMask) v s
      = answer (if v &&& maskBits = v then .done else .clamped) (v &&& maskBits) (writeMask v s) := by
  change answerField (storedCode (v &&& maskBits).toNat v.toNat) (.global .eventMask) (writeMask v s) = _
  rw [answerField_some (fieldValue_eventMask _), storedCode_mask]
  rfl

theorem exec_eventMaskWrite_settled {s : State} (powered : s.powered = true) (settled : Settled s) (v : Word) :
    exec (.eventMaskWrite v) s = .next (writeNamed (.global .eventMask) v s) := framed_settled powered settled

/-- Settles O18: the mask, then the places, decide what a post does. -/
theorem postingAnEvent : Obligations.PostingAnEvent := by
  constructor
  · intro k e v s
    exact ⟨fun masked => postEvent_masked masked e v, fun on full => postEvent_dropped on full e v,
      fun on room => postEvent_queued on room e v, postEvent_eventLaw k e v⟩
  · intro v s powered settled
    rw [exec_eventMaskWrite_settled powered settled, writeNamed_eventMask]
    rfl

/-! ### POP EVENT (R190) -/

theorem popEvent_nil {s : State} (empty : s.mp.events = []) : popEvent s = answerNat .refusedState 0 s := by
  simp [popEvent, empty]

theorem popEvent_cons {s : State} {r : EventRecord} {rest : List EventRecord} (queue : s.mp.events = r :: rest) :
    popEvent s
      = answerNat .done (recordHead r) (s.onMp fun m => { m with events := rest, popped := r.value.getD 0 }) := by
  simp [popEvent, queue]

theorem exec_popEvent_settled {s : State} (powered : s.powered = true) (settled : Settled s) :
    exec .popEvent s = .next (popEvent s) := framed_settled powered settled

/-! ### The ALERT line (R191) -/

theorem alert_iff (s : State) : alert s = true ↔ s.powered = true ∧ s.mp.events ≠ [] := by simp [alert]

theorem alert_empty {s : State} (empty : s.mp.events = []) : alert s = false := by simp [alert, empty]

theorem alert_unpowered {s : State} (low : s.powered = false) : alert s = false := by simp [alert, low]

/-- ALERT reads PORn and the queue, and nothing else. -/
theorem alert_congr {s t : State} (power : t.powered = s.powered) (queue : t.mp.events = s.mp.events) :
    alert t = alert s := by simp [alert, power, queue]

/-- R189, R191: a post that is masked or dropped leaves the line. -/
theorem alert_postEvent_of_not_queued {k : EventKind} {s : State}
    (kept_out : s.mp.eventMask.getLsbD (eventCode k) = false ∨ s.mp.events.length = 32) (e : Option EntryIx)
    (v : Option Nat) : alert (postEvent k e v s) = alert s := by
  cases on : s.mp.eventMask.getLsbD (eventCode k) with
  | false => rw [postEvent_masked on]
  | true =>
    have full : s.mp.events.length = 32 := kept_out.resolve_left (by simp [on])
    rw [postEvent_dropped on full.ge]
    exact alert_congr rfl rfl

/-- R189, R191: a post that queues a record asserts it. -/
theorem alert_postEvent_of_queued {k : EventKind} {s : State} (powered : s.powered = true)
    (on : s.mp.eventMask.getLsbD (eventCode k) = true) (room : s.mp.events.length < 32) (e : Option EntryIx)
    (v : Option Nat) : alert (postEvent k e v s) = true := by
  rw [postEvent_queued on room, alert_iff]
  exact ⟨powered, by simp⟩

/-- Settles O59: every act it names either empties the queue, adds to it, leaves it, or takes PORn low. -/
theorem alertFollowsTheEventQueue : Obligations.AlertFollowsTheEventQueue := by
  refine ⟨?line, ?popLast, fun _ _ _ _ _ empty => alert_empty empty, ?post, fun _ => alert_unpowered, ?low, ?powerOn⟩
  case line =>
    intro s powered
    simp [alert_iff, powered]
  case popLast =>
    intro s t r powered settled last run
    rw [exec_popEvent_settled powered settled, popEvent_cons last] at run
    cases run
    exact alert_empty rfl
  case post =>
    intro k e v s powered
    exact ⟨fun on empty => alert_postEvent_of_queued powered on (by simp [empty]) e v,
      fun kept_out => alert_postEvent_of_not_queued kept_out e v⟩
  case low =>
    intro s t run
    cases run
    exact alert_unpowered rfl
  case powerOn =>
    intro s t strap run
    cases run
    exact alert_empty rfl

end Sys2Proof.Machine

/-! SUPPORT. R190: what leaves the popped value alone: one lemma per operation that posts an event or writes the
Management Port; the others leave the whole of it. -/

namespace Sys2Proof.Machine

/-! ### Events -/

@[simp] theorem postEvent_popped (k : EventKind) (e : Option EntryIx) (v : Option Nat) (s : State) :
    (postEvent k e v s).mp.popped = s.mp.popped := by rw [postEvent_mp]

@[simp] theorem postFault_popped (c : FaultCause) (e : Option EntryIx) (s : State) :
    (postFault c e s).mp.popped = s.mp.popped := postEvent_popped _ _ _ s

@[simp] theorem evaluatePressure_popped (s : State) : (evaluatePressure s).mp.popped = s.mp.popped := by
  unfold evaluatePressure; dsimp only; (repeat' split) <;> simp

@[simp] theorem trigger_popped (k : TriggerSource) (s : State) : (trigger k s).mp.popped = s.mp.popped := by
  unfold trigger; (repeat' split) <;> simp

/-! ### The Hold Store -/

@[simp] theorem afterFreeing_popped (s : State) : (afterFreeing s).mp.popped = s.mp.popped := by simp [afterFreeing]

@[simp] theorem freeCellsIfFinished_popped (c : Nat) (s : State) :
    (freeCellsIfFinished c s).mp.popped = s.mp.popped := by unfold freeCellsIfFinished; (repeat' split) <;> simp

@[simp] theorem discardAll_popped (p : Descriptor → Bool) (f : Reservation → Reservation) (s : State) :
    (discardAll p f s).mp.popped = s.mp.popped := by unfold discardAll; dsimp only; split <;> simp

@[simp] theorem lengthMismatch_popped (c : Nat) (d : DataState) (s : State) :
    (lengthMismatch c d s).mp.popped = s.mp.popped := by
  unfold lengthMismatch; dsimp only; (repeat' split) <;> simp

@[simp] theorem requesterAborts_popped (c : Nat) (s : State) : (requesterAborts c s).mp.popped = s.mp.popped := by
  unfold requesterAborts; (repeat' split) <;> simp

@[simp] theorem closeReception_popped (c : Nat) (ev : Closing) (s : State) :
    (closeReception c ev s).mp.popped = s.mp.popped := by unfold closeReception; (repeat' split) <;> simp

@[simp] theorem landBeat_popped (c : Nat) (b : Beat) (s : State) : (landBeat c b s).mp.popped = s.mp.popped := by
  unfold landBeat; (repeat' split) <;> simp

@[simp] theorem landBeats_popped (c : Nat) (bs : List Beat) (s : State) :
    (bs.foldl (fun t b => landBeat c b t) s).mp.popped = s.mp.popped :=
  foldl_keeps (fun t : State => t.mp.popped) _ (fun t b => landBeat_popped c b t) bs s

/-! ### The upstream port and the disposition -/

@[simp] theorem endPacket_popped (ev : Closing) (s : State) : (endPacket ev s).mp.popped = s.mp.popped := by
  unfold endPacket; split <;> simp

@[simp] theorem headerArrives_popped (h : Header) (s : State) : (headerArrives h s).mp.popped = s.mp.popped := by
  unfold headerArrives; dsimp only; split <;> simp

@[simp] theorem beatArrives_popped (b : Beat) (s : State) : (beatArrives b s).mp.popped = s.mp.popped := by
  unfold beatArrives; dsimp only; (repeat' split) <;> simp

@[simp] theorem markArrives_popped (ev : Closing) (s : State) : (markArrives ev s).mp.popped = s.mp.popped := by
  unfold markArrives; split <;> simp

@[simp] theorem holdHead_popped (p : ArrivalPacket) (rest : List ArrivalPacket) (e : EntryIx) (s : State) :
    (holdHead p rest e s).mp.popped = s.mp.popped := by
  have hold : (stored p rest e s).mp.popped = s.mp.popped := by simp [stored]
  rw [holdHead_eq]
  dsimp only
  split
  · cases p.closing <;> simp [hold]
  · exact hold

@[simp] theorem dispose_popped (s : State) : (dispose s).mp.popped = s.mp.popped := by
  unfold dispose; (repeat' split) <;> simp

/-! ### Releases -/

@[simp] theorem release_popped (l : LaneName) (d : Descriptor) (s : State) :
    (release l d s).mp.popped = s.mp.popped := by unfold release; split <;> simp [releaseDescriptor]

@[simp] theorem visitFrom_popped (l : LaneName) (p : SearchPlace) (s : State) :
    (visitFrom l p s).mp.popped = s.mp.popped := by
  rcases visitFrom_cases l p s with ⟨d, -, h⟩ | ⟨d, -, -, h⟩ | ⟨-, -, h⟩ <;> simp [h]

@[simp] theorem visit_popped (l : LaneName) (c : SvcClass) (s : State) : (visit l c s).mp.popped = s.mp.popped :=
  visitFrom_popped l _ s

@[simp] theorem visitPhase_popped (l : LaneName) (s : State) : (visitPhase l s).mp.popped = s.mp.popped := by
  unfold visitPhase; split <;> simp

@[simp] theorem arriveAndVisit_popped (l : LaneName) (s : State) : (arriveAndVisit l s).mp.popped = s.mp.popped := by
  unfold arriveAndVisit; dsimp only; (repeat' split) <;> simp

@[simp] theorem slotVisit_popped (l : LaneName) (s : State) : (slotVisit l s).mp.popped = s.mp.popped := by
  unfold slotVisit; (repeat' split) <;> simp

@[simp] theorem drainSearch_popped (s : State) : (drainSearch s).mp.popped = s.mp.popped := by
  unfold drainSearch drainOnce; (repeat' split) <;> simp

/-! ### The downstream port -/

@[simp] theorem discardMalformed_popped (n m : Nat) (next : DownReception) (s : State) :
    (discardMalformed n m next s).mp.popped = s.mp.popped := by simp [discardMalformed]

@[simp] theorem handResponse_popped (r : Response) (s : State) : (handResponse r s).mp.popped = s.mp.popped := by
  unfold handResponse; dsimp only; (repeat' split) <;> simp

@[simp] theorem endResponse_popped (s : State) : (endResponse s).mp.popped = s.mp.popped := by
  unfold endResponse; split <;> simp

@[simp] theorem responseHeaderArrives_popped (h : Header) (s : State) :
    (responseHeaderArrives h s).mp.popped = s.mp.popped := by
  unfold responseHeaderArrives; dsimp only; (repeat' split) <;> simp

@[simp] theorem extendResponse_popped (r : Response) (b : Beat) (s : State) :
    (extendResponse r b s).mp.popped = s.mp.popped := by
  unfold extendResponse; dsimp only; (repeat' split) <;> simp

@[simp] theorem responseBeatArrives_popped (b : Beat) (s : State) :
    (responseBeatArrives b s).mp.popped = s.mp.popped := by
  unfold responseBeatArrives; dsimp only; (repeat' split) <;> simp

@[simp] theorem responseMarkArrives_popped (s : State) : (responseMarkArrives s).mp.popped = s.mp.popped := by
  unfold responseMarkArrives; split <;> simp

@[simp] theorem putPacket_popped (g : Grant) (s : State) : (putPacket g s).mp.popped = s.mp.popped := by
  unfold putPacket; dsimp only; (repeat' split) <;> simp

@[simp] theorem packetBegin_popped (s : State) : (packetBegin s).mp.popped = s.mp.popped := by
  unfold packetBegin; split <;> simp

@[simp] theorem unitSend_popped (s : State) : (unitSend s).mp.popped = s.mp.popped := by
  unfold unitSend sendEndMark; (repeat' split) <;> simp

@[simp] theorem underrunExpires_popped (s : State) : (underrunExpires s).mp.popped = s.mp.popped := by
  unfold underrunExpires underrunWrite; dsimp only; (repeat' split) <;> simp

@[simp] theorem timerExpires_popped (rid : ReqId) (tag : Tag) (s : State) :
    (timerExpires rid tag s).mp.popped = s.mp.popped := by unfold timerExpires; (repeat' split) <;> simp

/-! ### Link events -/

@[simp] theorem releasedUpDown_popped (r : UpReception) (s : State) :
    (releasedUpDown r s).mp.popped = s.mp.popped := by cases r <;> simp [releasedUpDown]

@[simp] theorem upLinkGoesDown_popped (s : State) : (upLinkGoesDown s).mp.popped = s.mp.popped := by
  simp [upLinkGoesDown, holdStoreUpDown]

@[simp] theorem endTransmissions_popped (cells : List Nat) (s : State) :
    (endTransmissions cells s).mp.popped = s.mp.popped :=
  foldl_keeps (fun t : State => t.mp.popped) _ (fun _ _ => by simp) cells s

@[simp] theorem downLinkGoesDown_popped (s : State) : (downLinkGoesDown s).mp.popped = s.mp.popped := by
  simp [downLinkGoesDown]

/-! ### Epochs, windows and the evaluation -/

@[simp] theorem epochExpiry_popped (s : State) : (epochExpiry s).mp.popped = s.mp.popped := by
  unfold epochExpiry; dsimp only; split <;> simp

@[simp] theorem timerExpiry_popped (s : State) : (timerExpiry s).mp.popped = s.mp.popped := by
  unfold timerExpiry; dsimp only; (repeat' split) <;> simp

@[simp] theorem pulseEnds_popped (s : State) : (pulseEnds s).mp.popped = s.mp.popped := rfl

@[simp] theorem paceEdge_popped (s : State) : (paceEdge s).mp.popped = s.mp.popped := by
  unfold paceEdge; (repeat' split) <;> simp

@[simp] theorem countdownExpires_popped (s : State) : (countdownExpires s).mp.popped = s.mp.popped := by
  unfold countdownExpires; split <;> simp

@[simp] theorem postLimits_popped (e : EntryIx) (c : EntryConfig) (r : ClosingRecord) (s : State) :
    (postLimits e c r s).mp.popped = s.mp.popped := by unfold postLimits; (repeat' split) <;> simp

@[simp] theorem postCrossing_popped (e : EntryIx) (c : EntryConfig) (r : ClosingRecord) (last : CrossSign) (s : State) :
    (postCrossing e c r last s).mp.popped = s.mp.popped := by unfold postCrossing; (repeat' split) <;> simp

@[simp] theorem announce_popped (e : EntryIx) (m : Nat) (t : Option Transition) (s : State) :
    (announce e m t s).mp.popped = s.mp.popped := by unfold announce; split <;> simp

@[simp] theorem evaluateEntry_popped (e : EntryIx) (s : State) : (evaluateEntry e s).mp.popped = s.mp.popped := by
  simp [evaluateEntry]

@[simp] theorem evaluationStep_popped (s : State) : (evaluationStep s).mp.popped = s.mp.popped := by
  unfold evaluationStep; dsimp only; (repeat' split) <;> simp

/-! ### Field writes and the change list -/

@[simp] theorem disableEntry_popped (e : EntryIx) (s : State) : (disableEntry e s).mp.popped = s.mp.popped := by
  unfold disableEntry disableHeld; split <;> simp

/-- A write of a code keeps the popped value if the write it makes does. -/
theorem writeCode_popped {α : Type} (o : Option α) {f : α → State → State} (s : State)
    (keeps : ∀ a, (f a s).mp.popped = s.mp.popped) : (writeCode o f s).1.mp.popped = s.mp.popped := by
  cases o with
  | none => rfl
  | some a => exact keeps a

@[simp] theorem writeEntryNumber_popped (e : EntryIx) (lo hi v : Nat) (f : Nat → EntryConfig → EntryConfig)
    (s : State) : (writeEntryNumber e lo hi v f s).1.mp.popped = s.mp.popped := rfl

@[simp] theorem writeEntryField_popped (e : EntryIx) (f : EntryField) (v : Nat) (s : State) :
    (writeEntryField e f v s).1.mp.popped = s.mp.popped := by
  cases f with
  | enabled => unfold writeEntryField; dsimp only; (repeat' split) <;> simp [refuseWrite]
  | cls | lendRatio | refillSource | crossing => exact writeCode_popped _ s fun _ => by simp
  | key | mask | baseLow | baseHigh | limitLow | limitHigh | floor | ceiling | weight | burst | pinnedRefill | quota
  | flightCap | meterLow | meterHigh | offset => simp [writeEntryField]

@[simp] theorem writeClassField_popped (c : SvcClass) (f : ClassField) (v : Nat) (s : State) :
    (writeClassField c f v s).1.mp.popped = s.mp.popped := by
  cases f with
  | cutThrough | policy => exact writeCode_popped _ s fun _ => by simp
  | startMark => simp [writeClassField]

@[simp] theorem writeSlotField_popped (i : Fin 16) (f : SlotField) (v : Nat) (s : State) :
    (writeSlotField i f v s).1.mp.popped = s.mp.popped := by
  cases f <;> exact writeCode_popped _ s fun _ => by simp

@[simp] theorem writeWheelSetting_popped (f : WheelSetting) (v : Nat) (s : State) :
    (writeWheelSetting f v s).1.mp.popped = s.mp.popped := by
  cases f <;> exact writeCode_popped _ s fun _ => by simp

@[simp] theorem writeMark_popped (m : PressureMark) (v : Nat) (s : State) :
    (writeMark m v s).mp.popped = s.mp.popped := by simp [writeMark]

@[simp] theorem writeGlobalField_popped (f : GlobalField) (v : Word) (s : State) :
    (writeGlobalField f v s).1.mp.popped = s.mp.popped := by
  cases f with
  | epochSource | paceDirection => exact writeCode_popped _ s fun _ => rfl
  | epochPeriod | portEpochBytes | penaltyScale | rescueScale | readFactor | writeFactor | responseTimeout
  | windowEpochs | overDeclare | overClear | starveDeclare | starveClear | mark _ | eventMask =>
    simp [writeGlobalField, writeNumber, writeMask]

@[simp] theorem writeListField_popped (i : Fin 32) (f : ListField) (v : Word) (s : State) :
    (writeListField i f v s).1.mp.popped = s.mp.popped := by unfold writeListField; split <;> simp

@[simp] theorem writeTriggerField_popped (f : TriggerField) (v : Nat) (s : State) :
    (writeTriggerField f v s).1.mp.popped = s.mp.popped := by
  cases f with
  | source | oneShot => exact writeCode_popped _ s fun _ => by simp
  | countdownLength => simp [writeTriggerField, writeNumber]

@[simp] theorem writeAt_popped (f : Field) (v : Word) (s : State) :
    (writeAt f v s).1.mp.popped = s.mp.popped := by cases f <;> simp [writeAt, refuseWrite]

@[simp] theorem applyToEntry_popped (f : EntryField) (n v : Nat) (s : State) :
    (applyToEntry f n v s).1.mp.popped = s.mp.popped := by unfold applyToEntry; split <;> simp [refuseWrite]

@[simp] theorem applyToSlot_popped (n v : Nat) (s : State) :
    (applyToSlot n v s).1.mp.popped = s.mp.popped := by unfold applyToSlot; split <;> simp [refuseWrite]

@[simp] theorem applyKind_popped (k : ListKind) (n : Nat) (v : Word) (s : State) :
    (applyKind k n v s).1.mp.popped = s.mp.popped := by cases k <;> simp [applyKind]

@[simp] theorem applyNext_popped (s : State) : (applyNext s).mp.popped = s.mp.popped := by
  unfold applyNext runOn runDone runFault; dsimp only; (repeat' split) <;> simp

/-! ### Resets and the start-up fill -/

@[simp] theorem fillEnds_popped (s : State) : (fillEnds s).mp.popped = s.mp.popped := by
  unfold fillEnds; dsimp only; (repeat' split) <;> simp

@[simp] theorem softResetList_popped (s : State) : (softResetList s).mp.popped = s.mp.popped := by
  unfold softResetList landFromRun landHanded; dsimp only; (repeat' split) <;> simp

@[simp] theorem blockAct_popped (b : ResetBlock) (s : State) : (blockAct b s).mp.popped = s.mp.popped := by
  cases b <;> simp [blockAct, softResetHold]

@[simp] theorem takeAct_popped (s : State) : (takeAct s).mp.popped = s.mp.popped := by
  rcases takeAct_cases s with ⟨-, h⟩ | ⟨b, -, h⟩ <;> simp [h]

@[simp] theorem takeActs_popped (n : Nat) (s : State) : (takeActs n s).mp.popped = s.mp.popped := by
  induction n generalizing s with
  | zero => rfl
  | succ n ih => rw [takeActs, ih, takeAct_popped]

@[simp] theorem allActs_popped (s : State) : (allActs s).mp.popped = s.mp.popped := takeActs_popped _ s

@[simp] theorem someActs_popped (s : State) : (someActs s).mp.popped = s.mp.popped := takeActs_popped _ _

/-! ### The controller's frames -/

@[simp] theorem answer_popped (c : AnswerCode) (v : Word) (s : State) : (answer c v s).mp.popped = s.mp.popped := rfl

@[simp] theorem answerNat_popped (c : AnswerCode) (n : Nat) (s : State) :
    (answerNat c n s).mp.popped = s.mp.popped := rfl

@[simp] theorem answerFree_popped (c : AnswerCode) (s : State) : (answerFree c s).mp.popped = s.mp.popped := rfl

@[simp] theorem answerMode_popped (c : AnswerCode) (s : State) : (answerMode c s).mp.popped = s.mp.popped := rfl

@[simp] theorem answerActivity_popped (c : AnswerCode) (s : State) : (answerActivity c s).mp.popped = s.mp.popped := rfl

@[simp] theorem answerField_popped (c : AnswerCode) (f : Field) (s : State) :
    (answerField c f s).mp.popped = s.mp.popped := by unfold answerField; split <;> simp

@[simp] theorem noSuchField_popped (s : State) : (noSuchField s).mp.popped = s.mp.popped := rfl

@[simp] theorem readMeasured_popped (e : EntryIx) (s : State) : (readMeasured e s).mp.popped = s.mp.popped := by
  simp [readMeasured]

@[simp] theorem readReleasedLow_popped (e : EntryIx) (s : State) :
    (readReleasedLow e s).mp.popped = s.mp.popped := by simp [readReleasedLow]

@[simp] theorem readReleasedHigh_popped (e : EntryIx) (s : State) :
    (readReleasedHigh e s).mp.popped = s.mp.popped := by unfold readReleasedHigh; (repeat' split) <;> simp

@[simp] theorem readAt_popped (table index field : Nat) (s : State) :
    (readAt table index field s).mp.popped = s.mp.popped := by
  unfold readAt readNamed; (repeat' split) <;> simp

@[simp] theorem writeNamed_popped (f : Field) (v : Word) (s : State) :
    (writeNamed f v s).mp.popped = s.mp.popped := by simp [writeNamed]

@[simp] theorem writeField_popped (table index field : Nat) (v : Word) (s : State) :
    (writeField table index field v s).mp.popped = s.mp.popped := by unfold writeField; split <;> simp

@[simp] theorem writeListEntry_popped (index field : Byte) (v : Word) (s : State) :
    (writeListEntry index field v s).mp.popped = s.mp.popped := by unfold writeListEntry; split <;> simp

@[simp] theorem readStatus_popped (pin : Bool) (s : State) : (readStatus pin s).mp.popped = s.mp.popped := rfl

@[simp] theorem clearStatus_popped (v : Word) (pin : Bool) (s : State) :
    (clearStatus v pin s).mp.popped = s.mp.popped := rfl

@[simp] theorem arm_popped (s : State) : (arm s).mp.popped = s.mp.popped := rfl

@[simp] theorem disarm_popped (s : State) : (disarm s).mp.popped = s.mp.popped := rfl

@[simp] theorem go_popped (s : State) : (go s).mp.popped = s.mp.popped := by unfold go; split <;> simp

@[simp] theorem inject_popped (index : Byte) (v : Word) (s : State) : (inject index v s).mp.popped = s.mp.popped := by
  unfold inject injectEntry; (repeat' split) <;> simp

@[simp] theorem clearCounters_popped (s : State) : (clearCounters s).mp.popped = s.mp.popped := rfl

@[simp] theorem engage_popped (s : State) : (engage s).mp.popped = s.mp.popped := by
  unfold engage; split <;> simp [setMode]

@[simp] theorem bypass_popped (s : State) : (bypass s).mp.popped = s.mp.popped := by
  unfold bypass; split <;> simp [setMode]

@[simp] theorem halt_popped (s : State) : (halt s).mp.popped = s.mp.popped := by
  unfold halt; split <;> simp [haltFrom, setMode]

@[simp] theorem resume_popped (s : State) : (resume s).mp.popped = s.mp.popped := by
  unfold resume; split <;> simp [setMode]

@[simp] theorem softReset_popped (pin : Bool) (s : State) : (softReset pin s).mp.popped = s.mp.popped := by
  simp [softReset, handReset, softResetPort]

/-! ### Where a command answers -/

/-- A command on a requester entry keeps the popped value if it does for every entry. -/
@[simp] theorem onEntry_popped (index : Byte) {f : EntryIx → State → State} (s : State)
    (keeps : ∀ e, (f e s).mp.popped = s.mp.popped) : (onEntry index f s).mp.popped = s.mp.popped := by
  unfold onEntry; split <;> simp [keeps]

theorem onUpLink_popped {f : State → State} (s : State) (keeps : (f s).mp.popped = s.mp.popped) :
    (onUpLink f s).mp.popped = s.mp.popped := by unfold onUpLink; split <;> simp [keeps]

theorem onDownLink_popped {f : State → State} (s : State) (keeps : (f s).mp.popped = s.mp.popped) :
    (onDownLink f s).mp.popped = s.mp.popped := by unfold onDownLink; split <;> simp [keeps]

theorem whilePowered_popped {f : State → State} {s t : State} (run : whilePowered f s = .next t)
    (keeps : (f s).mp.popped = s.mp.popped) : t.mp.popped = s.mp.popped := by
  rw [whilePowered_next run]; split <;> simp [keeps]

/-- A frame keeps the popped value if its own act does: the acts that were due keep it. -/
theorem framed_popped {f : State → State} {s t : State} (run : framed f s = .next t)
    (keeps : ∀ u, (f u).mp.popped = u.mp.popped) : t.mp.popped = s.mp.popped :=
  whilePowered_popped run (by simp [keeps])

/-- R190: no command but a POP EVENT and power-on reset changes the popped value. -/
theorem exec_popped {c : Instr} {s t : State} (run : exec c s = .next t) (not_pop : c ≠ .popEvent)
    (not_powerOn : ∀ p, c ≠ .powerOnReset p) : t.mp.popped = s.mp.popped := by
  cases c with
  | popEvent => exact absurd rfl not_pop
  | powerOnReset p => exact absurd rfl (not_powerOn p)
  | powerOnResetAsserted | frameAbort => cases run; rfl
  | upHeaderArrival _ | upBeatArrival _ | upEndMark | requesterAbort | switchCreditGrant _ _ | upResponseSend
  | upLinkDown => exact whilePowered_popped run (onUpLink_popped s (by simp))
  | responseHeaderArrival _ | responseBeatArrival _ | responseMarkArrival _ | memoryCreditGrant _ _ | downLinkDown =>
    exact whilePowered_popped run (onDownLink_popped s (by simp))
  | disposition | upLinkUp | downLinkUp | startUpFillEnd | epochTimerExpiry | pacePulseEnd | paceEdge | refillLanding
  | refillPassEnd | entryEvaluation | slotVisit _ | slotPairStep | drainSearch | packetBegin | dpUnitSend
  | responseTimerExpiry _ _ | underrun | countdownExpiry | changeListApply =>
    exact whilePowered_popped run (by simp)
  | readField _ _ _ | readM _ | readReleasedBytesLow _ | readReleasedBytesHigh _ | readStatus _ | clearStatus _ _
  | writeField _ _ _ _ | enable _ | disable _ | setBurst _ _ | portEpochBytesWrite _ | pressureMarkWrite _ _
  | paceDirectionWrite _ | triggerSourceWrite _ | changeListEntryWrite _ _ _ | eventMaskWrite _
  | wheelSettingWrite _ _ | engage | bypass | halt | resume | softReset _ | arm | disarm | go | inject _ _
  | clearCounters | unknownCommand _ => exact framed_popped run (fun _ => by simp)

end Sys2Proof.Machine

/-! SUPPORT. R190: the popped value where the controller reads it, and the queue after a POP EVENT. -/

namespace Sys2Proof.Machine

/-- R190: GLOBAL field 24h holds the popped value. -/
theorem readAt_poppedField (s : State) : readAt 4 0 0x24 s = answer .done s.mp.popped s := by
  change answerField .done (.globalRuntime .popped) s = _
  exact answerField_some (by simp [fieldValue, globalRuntimeValue]) .done

/-- R189, R190: after a POP EVENT a queue that was full takes a post again. -/
theorem postEvent_events_after_popEvent {k : EventKind} {s : State} {r : EventRecord} {rest : List EventRecord}
    (queue : s.mp.events = r :: rest) (full : s.mp.events.length = 32)
    (on : s.mp.eventMask.getLsbD (eventCode k) = true) (e : Option EntryIx) (v : Option Nat) :
    (postEvent k e v (popEvent s)).mp.events
      = rest ++ [⟨k, e, v.map (BitVec.ofNat 32), s.ce.epochCounter⟩] := by
  have room : rest.length < 32 := by
    rw [queue, List.length_cons] at full
    omega
  rw [popEvent_cons queue, postEvent_queued]
  · rfl
  · exact on
  · exact room

/-- Settles O58: the act of a POP EVENT on either queue, the field that shows its value, and the frame that keeps it. -/
theorem popEventTakesTheOldestRecord : Obligations.PopEventTakesTheOldestRecord := by
  refine ⟨?pop, ?empty, ?read, fun _ _ _ => exec_popped⟩
  case pop =>
    intro s r rest powered settled queue index t
    have act : popEvent s = t := popEvent_cons queue
    refine ⟨?taken, rfl, fun k e v full on => ⟨?place, ?_⟩⟩
    case taken => rw [exec_popEvent_settled powered settled, act]
    case place => rw [← act, postEvent_events_after_popEvent queue full on]
    rw [postEvent_dropped on full.ge]
    exact ⟨rfl, rfl⟩
  case empty =>
    intro s powered settled empty
    rw [exec_popEvent_settled powered settled, popEvent_nil empty]
    rfl
  case read =>
    intro s powered settled
    have run : exec (.readField 4 0 0x24) s = .next (readAt 4 0 0x24 s) := framed_settled powered settled
    rw [run, readAt_poppedField]
    rfl

end Sys2Proof.Machine
